-- ==== Sys2Proof/Word.lean ====
section
/-! DEFINITION. The bit-vector types of the CD-620: what the manual adds, shifts or lays out bit by bit. -/

namespace Sys2Proof

/-- One byte of a payload or of the configuration block (R5, R16). -/
abbrev Byte := BitVec 8

/-- A row tag: 16 bits, counted modulo 65536 (00_scope.md, Units and ranges). -/
abbrev Tag := BitVec 16

end Sys2Proof
end

