-- ==== Sys2Proof/Config.lean ====
section
/-! DEFINITION. The configuration in force (R16) as the start-up loader holds it after clamping (R198).
What an implementation fixes is read from the configuration block, so it stands in State; the spec leaves no
result undefined, so there is no free value here. -/

namespace Sys2Proof

/-- The two demand classes of a feed (R106, R107). -/
inductive DrawClass where
  | a
  | b
  deriving DecidableEq, Repr

/-- Every field of the configuration block (R16), each with the unit of the Configuration Field Summary. The options byte stays
a byte, so that its bits, bit 0 among them, are returned as read. -/
structure Configuration where
  /-- Own stage k. -/
  stage : Nat
  /-- Stage count nS. -/
  stages : Nat
  /-- Own position, in pitches. -/
  position : Nat
  /-- Lane count n. -/
  lanes : Nat
  /-- Options byte: bit 7 lane reversal, 6 start-mark tolerance, 5 clear-on-status-read, 4 freeze-on-stop, 3 log mode,
  2 card-unknown policy, 1 load-unknown policy. -/
  options : Byte
  /-- Evidence number N. -/
  evidence : Nat
  /-- Minimum index interval, ms. -/
  minIndex : Nat
  /-- Motion allowance, ms. -/
  motion : Nat
  /-- Settle delay, ms. -/
  settle : Nat
  /-- Release allowance, ms. -/
  release : Nat
  /-- Close timeout, ms. -/
  closeTimeout : Nat
  /-- Open timeout, ms. -/
  openTimeout : Nat
  /-- Idle timeout, s. -/
  idleTimeout : Nat
  /-- Dry period, ms. -/
  dryPeriod : Nat
  /-- Maximum dwell Nconf, samples. -/
  nconf : Nat
  /-- Minimum dwell Nmin, samples. -/
  nmin : Nat
  /-- Lift lead L, samples. -/
  lead : Nat
  /-- Activation temperature Tact, qd. -/
  tact : Nat
  /-- Contact pressure Pmin, kPa. -/
  pmin : Nat
  /-- Full-weight pressure Pref, kPa. -/
  pref : Nat
  /-- Nominal shares s1 to s4, RU. -/
  share1 : Nat
  share2 : Nat
  share3 : Nat
  share4 : Nat
  /-- Dtarget, RU. -/
  dtarget : Nat
  /-- Dmin, RU. -/
  dmin : Nat
  /-- Dmax, RU. -/
  dmax : Nat
  /-- Pspan, kPa. -/
  pspan : Nat
  /-- Poffset, kPa, signed. -/
  poffset : Int
  /-- Channel offsets 0 to 7, qd, signed, physical order. -/
  offsets : List Int
  /-- Averaging a. -/
  averaging : Nat
  /-- Overheat limit Tlimit, qd. -/
  tlimit : Nat
  /-- Reference tolerance, converter counts. -/
  refTol : Nat
  /-- SP_run, qd. -/
  spRun : Nat
  /-- SP_stby, qd. -/
  spStby : Nat
  /-- Bias b, ms. -/
  bias : Nat
  /-- Gain g. -/
  gain : Nat
  /-- Wlane of channels 0 to 7, W, physical order. -/
  wlane : List Nat
  /-- Feed, 0 to 3. -/
  feed : Nat
  /-- Demand class. -/
  cls : DrawClass
  /-- Budget B, W. -/
  budget : Nat
  /-- Alarm enable mask, in the order of R13. -/
  alarmMask : BitVec 16
  deriving DecidableEq, Repr

/-- What the blocks read while no configuration is in force: no lane in use, every field 0. No tick is made and no cycle runs
then (R73, R199), so only the lane count matters: channels serve no lane. -/
def Configuration.blank : Configuration :=
  { stage := 0, stages := 0, position := 0, lanes := 0, options := 0, evidence := 0, minIndex := 0, motion := 0, settle := 0,
    release := 0, closeTimeout := 0, openTimeout := 0, idleTimeout := 0, dryPeriod := 0, nconf := 0, nmin := 0, lead := 0,
    tact := 0, pmin := 0, pref := 0, share1 := 0, share2 := 0, share3 := 0, share4 := 0, dtarget := 0, dmin := 0, dmax := 0,
    pspan := 0, poffset := 0, offsets := [], averaging := 0, tlimit := 0, refTol := 0, spRun := 0, spStby := 0, bias := 0,
    gain := 0, wlane := [], feed := 0, cls := .a, budget := 0, alarmMask := 0 }

end Sys2Proof
end

