-- ==== Sys2Proof/Syntax.lean ====
section
/-! DEFINITION. The commands of the CD-620: one constructor of Instr for each row of spec/opcode_table.json, with the row's operands. -/

namespace Sys2Proof

/-- The roles of a node, in the order of the header's code 0 to 7 (R5). -/
inductive Role where
  | form
  | load
  | card
  | sealer
  | punch
  | reject
  | drive
  | tool
  deriving DecidableEq, Repr

/-- What a frame header carries beside its kind and its payload length (R5). Position 255 is no position. -/
structure Header where
  priority : BitVec 3
  station : BitVec 5
  role : Role
  position : Byte
  hereTag : Tag
  deriving DecidableEq, Repr

/-- One thermocouple conversion: a compensated reading in qd and the open-circuit flag (R74). -/
structure Conversion where
  reading : Int
  broken : Bool
  deriving DecidableEq, Repr

/-- What the converter can read at one sample tick: outside a reference check eight readings of each thermocouple channel, in
physical order, and of the pressure channel, of which it makes the first 2^a (R74; log 44); at a tick of a reference check
conversions of the internal reference (R86). The lists of the other case are not read. -/
structure Conversions where
  thermo : List (List Conversion)
  pressure : List Nat
  reference : List Nat
  deriving DecidableEq, Repr

/-- What the start-up loader reads from the configuration memory: the locator's two addresses, and the bytes from the start
address to the end address, in order (R16, R197). -/
structure MemoryRead where
  startAddr : BitVec 16
  endAddr : BitVec 16
  bytes : List Byte
  deriving DecidableEq, Repr

/-- The commands. A frame that arrives carries its header and its payload bytes; a request to this station carries its header
and its argument bytes, from byte 2 of its payload on (R11), its target being this station. -/
inductive Instr where
  /-- POWER_ON (R194). -/
  | powerOn
  /-- RESET_INPUT: the reset input goes active (R194). -/
  | resetInput
  /-- RESET_RELEASE (R194). -/
  | resetRelease
  /-- CRYSTAL_RUNNING (R196). -/
  | crystalRunning
  /-- CRYSTAL_WAIT_EXPIRY (R196). -/
  | crystalWaitExpiry
  /-- CONFIG_BLOCK_READ (R197): what was read. -/
  | configBlockRead (read : MemoryRead)
  /-- START_OPEN_TIMEOUT (R200). -/
  | startOpenTimeout
  /-- STRAP_CHANGE (R195): the pins' new levels as a number. -/
  | strapChange (straps : BitVec 5)
  /-- QUIET_DECLARATION (R1). -/
  | quietDeclaration
  /-- FRAME_SENT (R19). -/
  | frameSent
  /-- ARB_LOST (R18): the bit of the frame, counted from 0 at the first bit of the start mark, stuff bits counted, at which the
  port read dominant where it sent recessive. -/
  | arbLost (bit : Nat)
  /-- CLASH (R18): the bit of the frame, counted as for ARB_LOST, at which the port read another level than it sent. -/
  | clash (bit : Nat)
  /-- SERVICE_REPLY_EXPIRY (R21): the oldest reply whose 500 ms have not passed before. -/
  | serviceReplyExpiry
  /-- FRAME_BAD_CHECK (R23): the bits read after the accepted start mark, first bit first, recessive as true, stuff bits
  included, as far as the reception went; a list that ends before the last check bit is a frame the quiet line cut short. -/
  | frameBadCheck (bits : List Bool)
  /-- OWN_STATION_FRAME (R24). -/
  | ownStationFrame
  /-- ROW_VERDICT (R57). -/
  | rowVerdict (h : Header) (payload : List Byte)
  /-- SEAL_REPORT (R60). -/
  | sealReport (h : Header) (payload : List Byte)
  /-- VOID_NOTICE (R62). -/
  | voidNotice (h : Header) (payload : List Byte)
  /-- DRAW_NOTICE (R103). -/
  | drawNotice (h : Header) (payload : List Byte)
  /-- LINE_STATE_STOP (R159): the whole payload, state byte and cause byte. -/
  | lineStateStop (h : Header) (payload : List Byte)
  /-- LINE_STATE_RUN (R159): the whole payload, state byte and cause byte. -/
  | lineStateRun (h : Header) (payload : List Byte)
  /-- SERVICE_REPLY (R25). -/
  | serviceReply (h : Header) (payload : List Byte)
  /-- UNKNOWN_KIND (R25): the kind code. -/
  | unknownKind (kind : BitVec 5) (h : Header) (payload : List Byte)
  /-- SERVICE_REQUEST_NOT_ADDRESSED (R25): the whole payload. -/
  | serviceRequestNotAddressed (h : Header) (payload : List Byte)
  /-- UNKNOWN_REQUEST (R188): the request code. -/
  | unknownRequest (code : Byte) (h : Header) (args : List Byte)
  /-- STATUS (R190). -/
  | status (h : Header) (args : List Byte)
  /-- READ_COUNTERS_A (R180). -/
  | readCountersA (h : Header) (args : List Byte)
  /-- READ_COUNTERS_B (R180). -/
  | readCountersB (h : Header) (args : List Byte)
  /-- SET_COUNTER (R173). -/
  | setCounter (h : Header) (args : List Byte)
  /-- FREEZE (R179). -/
  | freeze (h : Header) (args : List Byte)
  /-- THAW (R179). -/
  | thaw (h : Header) (args : List Byte)
  /-- CLEAR_COUNTERS (R181). -/
  | clearCounters (h : Header) (args : List Byte)
  /-- READ_LOG_A (R185). -/
  | readLogA (h : Header) (args : List Byte)
  /-- READ_LOG_B (R186). -/
  | readLogB (h : Header) (args : List Byte)
  /-- READ_ROW (R70). -/
  | readRow (h : Header) (args : List Byte)
  /-- READ_CONFIG (R190). -/
  | readConfig (h : Header) (args : List Byte)
  /-- CLEAR_ALARMS (R170). -/
  | clearAlarms (h : Header) (args : List Byte)
  /-- CLEAR_FAULT (R166). -/
  | clearFault (h : Header) (args : List Byte)
  /-- HOLD (R161). -/
  | hold (h : Header) (args : List Byte)
  /-- RELEASE (R161). -/
  | release (h : Header) (args : List Byte)
  /-- RESYNC (R163). -/
  | resync (h : Header) (args : List Byte)
  /-- REF_CHECK (R90). -/
  | refCheck (h : Header) (args : List Byte)
  /-- DRY_START (R162). -/
  | dryStart (h : Header) (args : List Byte)
  /-- DRY_STOP (R130). -/
  | dryStop (h : Header) (args : List Byte)
  /-- RESTART (R192). -/
  | restart (h : Header) (args : List Byte)
  /-- INDEX_EDGE (R28): the free-running millisecond count at the edge. -/
  | indexEdge (now : Nat)
  /-- SETTLE_END (R115). -/
  | settleEnd
  /-- SAMPLE_TICK (R73): the conversions of the tick. -/
  | sampleTick (conv : Conversions)
  /-- OPEN_RECOVERY (R81): the physical channel and its eight readings at the sixteenth clean tick, of which 2^a are made. -/
  | openRecovery (channel : Nat) (conv : List Conversion)
  /-- LAG_END (R141): the lane. -/
  | lagEnd (lane : Nat)
  /-- DWELL_LIMIT (R143). -/
  | dwellLimit
  /-- DRY_LIFT_COMMAND (R129): the lane. -/
  | dryLiftCommand (lane : Nat)
  /-- DRY_DWELL_END (R129). -/
  | dryDwellEnd
  /-- CLOSE_TIMEOUT (R120). -/
  | closeTimeout
  /-- OPEN_TIMEOUT (R123). -/
  | openTimeout
  /-- OPEN_SENSOR_ACTIVE (R122). -/
  | openSensorActive
  /-- OPEN_SENSOR_INACTIVE (R127). -/
  | openSensorInactive
  /-- CLOSED_SENSOR_CHANGE (R127): whether the sensor is active now. -/
  | closedSensorChange (active : Bool)
  /-- STOP_INPUT_ACTIVATION (R160). -/
  | stopInputActivation
  /-- STOP_INPUT_RELEASE (R160). -/
  | stopInputRelease
  /-- DRY_PERIOD_EXPIRY (R128). -/
  | dryPeriodExpiry
  /-- REF_CHECK_END (R87). -/
  | refCheckEnd
  /-- REGULATION_PERIOD_END (R99). -/
  | regulationPeriodEnd
  /-- BUDGET_PERIOD_END (R104). -/
  | budgetPeriodEnd
  /-- HEATER_ON_TIME_END (R100): the lane. -/
  | heaterOnTimeEnd (lane : Nat)
  /-- IDLE_TIMEOUT (R95). -/
  | idleTimeout
  /-- START_MARK_REFUSED (R2): another node's start mark comes in. The eight bits read, the first in the most significant place,
  recessive as 1. A mark that the receiver accepts refuses nothing: its first bit has ended the quiet (R1, R17), and the frame that it
  begins is taken in until the command of its arrival, later in the queue (log 9). -/
  | startMarkRefused (mark : Byte)
  deriving DecidableEq, Repr

end Sys2Proof
end

