-- ==== Sys2Proof/Decode.lean ====
section
/-! DEFINITION. The command that a word spells by the table's bits. The table gives no row any bits: the commands are events, not
words, so no word spells one. What the row line carries bit by bit is in Machine/Wire.lean. -/

namespace Sys2Proof

/-- The command that `nbits` bits `w` spell: none, for no row of the table has bits. -/
def decodeTableWord (_nbits _w : Nat) : Option Instr := none

end Sys2Proof
end

