-- ==== Sys2Proof/Machine/State.lean ====
section
/-! DEFINITION. The state of the CD-620, block by block as the manual's block diagram lists it (00_scope.md), as plain data,
and its value after POWER-ON. -/

namespace Sys2Proof.Machine

/-- The station modes (R155). -/
inductive Mode where
  | start
  | seek
  | run
  | hold
  | dry
  | fault
  deriving DecidableEq, Repr

/-- The platen states (R112); `opened` is OPEN. -/
inductive Platen where
  | opened
  | settle
  | closing
  | dwell
  | opening
  deriving DecidableEq, Repr

/-- Values of a formed field that has received a statement (R52). -/
inductive Formed where
  | good
  | bad
  deriving DecidableEq, Repr

/-- Values of a load field that has received a statement (R52). -/
inductive Load where
  | good
  | short
  | over
  | empty
  deriving DecidableEq, Repr

/-- Values of a card field that has received a statement (R52). -/
inductive Card where
  | placed
  | missing
  | skewed
  deriving DecidableEq, Repr

/-- The verdicts, in the order of their codes 0 to 5 (R9). -/
inductive Verdict where
  | pending
  | sealed
  | under
  | over
  | doubt
  | skipped
  deriving DecidableEq, Repr

/-- The reasons, in the order of their codes 0 to 10 (R9). -/
inductive Reason where
  | none
  | station
  | noHeat
  | upstream
  | overdose
  | noCard
  | badForm
  | crush
  | unknown
  | missed
  | notNeeded
  deriving DecidableEq, Repr

/-- A lane's plan, in the order of its codes 0 to 3 (R14, R52). -/
inductive Plan where
  | notSet
  | press
  | notPressed
  | holdOff
  deriving DecidableEq, Repr

/-- One upstream stage's contribution to a lane (R52). -/
structure Contribution where
  stage : Nat
  dose : Nat
  verdict : Verdict
  reason : Reason
  deriving DecidableEq, Repr

/-- The lane entry of a row record (R52). -/
structure LaneEntry where
  formed : Option Formed
  load : Option Load
  card : Option Card
  contributions : List Contribution
  plan : Plan
  planReason : Reason
  aim : Nat
  ownDose : Nat
  verdict : Verdict
  reason : Reason
  assumed : Bool
  voided : Bool
  sensor : Bool
  drift : Bool
  noContact : Bool
  forced : Bool
  deriving DecidableEq, Repr

/-- A row record (R51): its lanes are those in use, 0 to n−1. -/
structure RowRecord where
  tag : Tag
  frozen : Bool
  concluded : Bool
  /-- The upstream-voided set: the stages in it, in rising order, no stage twice. -/
  upstreamVoided : List Nat
  lanes : List LaneEntry
  deriving DecidableEq, Repr

/-- One lane of a SEAL REPORT (R150). -/
structure ReportLane where
  dose : Nat
  verdict : Verdict
  reason : Reason
  assumed : Bool
  voided : Bool
  sensor : Bool
  deriving DecidableEq, Repr

/-- The contents of a SEAL REPORT (R150). -/
structure SealReport where
  tag : Tag
  stage : Nat
  final : Bool
  noContact : Bool
  forced : Bool
  drift : Bool
  lanes : List ReportLane
  deriving DecidableEq, Repr

/-- The causes of the LINE STATE STOPs this part sends (R10). -/
inductive StopCause where
  | input
  | fault
  deriving DecidableEq, Repr

/-- The causes of a VOID NOTICE (R10). -/
inductive VoidCause where
  | realign
  | resync
  | faultClear
  deriving DecidableEq, Repr

/-- The status of a SERVICE REPLY (R12). -/
inductive ReplyStatus where
  | done
  | refused
  | bad
  | empty
  deriving DecidableEq, Repr

/-- What a frame of this part says: the five kinds it sends (R7). A LINE STATE it sends is always STOP (R159). -/
inductive FrameBody where
  | lineStop (cause : StopCause)
  | sealReport (report : SealReport)
  | voidNotice (first last : Tag) (stage : Nat) (cause : VoidCause)
  | drawNotice (feed : Nat) (cls : DrawClass) (demand : Nat)
  | serviceReply (requester : BitVec 5) (code : Byte) (status : ReplyStatus) (data : List Byte)
  deriving DecidableEq, Repr

/-- A frame in the transmit queue (R20): what it says, the header fields fixed when it was built (R6), its expiry age (R21),
whether it is in transmission (R17), whether its 500 ms passed while it was in transmission (R21), and whether it is the RESTART
reply that the pending restart waits for (R192). -/
structure TxFrame where
  body : FrameBody
  position : Byte
  hereTag : Tag
  age : Nat
  sending : Bool
  lapsed : Bool
  restartReply : Bool
  deriving DecidableEq, Repr

/-- The line port (R1, R18, R20). -/
structure LinePort where
  /-- The line has been declared quiet and no dominant bit has come since (R1). -/
  quiet : Bool
  /-- The receiver has given up on what is on the line and waits for it to go quiet (R2, R3, R5, R18). -/
  waitQuiet : Bool
  /-- A frame of another node is being taken in: its start mark was accepted, or own frame lost the arbitration to it, and its last
  bit has not come (R18, R23, R26). -/
  receiving : Bool
  clashCount : Nat
  queue : List TxFrame
  deriving DecidableEq, Repr

/-- The skew candidate (R42). -/
structure Skew where
  d : Int
  count : Nat
  hFirst : Tag
  deriving DecidableEq, Repr

/-- A pending realignment (R43). -/
structure Realignment where
  d : Int
  hFirst : Tag
  deriving DecidableEq, Repr

/-- The index tracker (R27 to R50). -/
structure Tracker where
  h : Option Tag
  records : List RowRecord
  candidate : Option Tag
  candidateCount : Nat
  skew : Option Skew
  pendingRealign : Option Realignment
  lastEdge : Option Nat
  lastPeriod : Option Nat
  indexCount : BitVec 32
  chatter : Bool
  quietCount : Nat
  /-- The free-running millisecond count as last read (R27). -/
  msCount : Nat
  deriving DecidableEq, Repr

/-- A thermocouple channel (R76, R80, R81, R83). -/
structure Channel where
  temp : Nat
  isOpen : Bool
  recovery : Nat
  overheat : Bool
  deriving DecidableEq, Repr

/-- A running reference check (R86): the ticks it has taken, and the sum and number of its reference conversions. -/
structure RefCheck where
  ticks : Nat
  sum : Nat
  count : Nat
  deriving DecidableEq, Repr

/-- The sampling unit (R73 to R92), its channels in physical order. -/
structure Sampling where
  channels : List Channel
  pressure : Nat
  drift : Bool
  converterFault : Bool
  check : Option RefCheck
  /-- The factory value, stored in the part and changed by no reset (R87, R92). -/
  factory : Nat
  deriving DecidableEq, Repr

/-- The heater of one lane: unscaled duty (R96), applied duty and output (R100), and whether the output has been on since the
last tick (R110). -/
structure Heater where
  duty : Nat
  applied : Nat
  on : Bool
  seen : Bool
  deriving DecidableEq, Repr

/-- An entry of the draw table (R103). -/
structure Draw where
  station : BitVec 5
  cls : DrawClass
  demand : Nat
  age : Nat
  deriving DecidableEq, Repr

/-- The heater regulator (R93 to R111), its heaters in line lane order, its draw table in order of last notice. -/
structure Regulator where
  heaters : List Heater
  setpoint : Nat
  idleClock : Nat
  idle : Bool
  draws : List Draw
  scale : Nat
  listen : Nat
  /-- Ticks of the regulation period in progress (R93). -/
  ticks : Nat
  /-- Regulation periods ended in the budget period in progress (R93). -/
  periods : Nat
  deriving DecidableEq, Repr

/-- A dry cycle in progress: H at its start, and whether its dwell log entry has been added (R129). -/
structure DryCycle where
  tag : Tag
  logged : Bool
  deriving DecidableEq, Repr

/-- The platen sequencer (R112 to R131). A timer is none while stopped; else it holds the milliseconds to which it runs. -/
structure Sequencer where
  platen : Platen
  settleTimer : Option Nat
  closeTimer : Option Nat
  openTimer : Option Nat
  dryTimer : Option Nat
  dryDue : Bool
  dry : Option DryCycle
  closeTimeouts : Nat
  dwellLimit : Nat
  deriving DecidableEq, Repr

/-- The contact of a lane (R132): in contact, in lag with the lag remaining, or ended. -/
inductive Contact where
  | inContact
  | lag (remaining : Nat)
  | ended
  deriving DecidableEq, Repr

/-- The dose integrator's state of one lane (R132); `sampled` says that the lane took a dwell sample in contact (R147). -/
structure LaneDose where
  aim : Nat
  acc : Nat
  contact : Contact
  lift : Option Nat
  sensorEnd : Bool
  drift : Bool
  sampled : Bool
  deriving DecidableEq, Repr

/-- The dose integrator (R132), its lanes in line lane order; `cut` says that the entry to FAULT cut the close (R151). -/
structure Dose where
  lanes : List LaneDose
  closeCommanded : Bool
  samples : Nat
  lost : Nat
  drift : Bool
  scaleAtStart : Nat
  cut : Bool
  underCount : Nat
  deriving DecidableEq, Repr

/-- The fault record (R165). -/
structure FaultRecord where
  code : Nat
  h : Option Tag
  count : BitVec 32
  further : Nat
  deriving DecidableEq, Repr

/-- The mode controller (R155 to R171). -/
structure ModeController where
  mode : Mode
  lineStop : Bool
  operatorHold : Bool
  fault : FaultRecord
  alarms : BitVec 16
  deriving DecidableEq, Repr

/-- A 40-bit counter and its wrap flag (R172). -/
structure Counter where
  value : Nat
  wrap : Bool
  deriving DecidableEq, Repr

/-- The controls of a programmable counter (R173) and its edge memory (R177). -/
structure Control where
  select : Nat
  mask : Byte
  threshold : Nat
  invert : Bool
  edge : Bool
  enable : Bool
  memory : Bool
  deriving DecidableEq, Repr

/-- What froze the counters (R179). -/
inductive FreezeCause where
  | request
  | stop
  deriving DecidableEq, Repr

/-- The monitor (R172 to R182): counters 0 to 6, controls of counters 0 to 5. -/
structure Monitor where
  counters : List Counter
  controls : List Control
  frozen : Option FreezeCause
  snapshot : Option (List Counter)
  deriving DecidableEq, Repr

/-- One lane of a dwell log entry: own dose, and the lift sample in units of 2 samples, 255 for none (R151). -/
structure LogLane where
  dose : Nat
  lift : Nat
  deriving DecidableEq, Repr

/-- A dwell log entry (R151). -/
structure LogEntry where
  tag : Tag
  samples : Nat
  lost : Nat
  scale : Nat
  dry : Bool
  aborted : Bool
  forced : Bool
  chatter : Bool
  drift : Bool
  lanes : List LogLane
  deriving DecidableEq, Repr

/-- The dwell log, oldest entry first (R183, R184). -/
structure DwellLog where
  entries : List LogEntry
  overflow : Nat
  deriving DecidableEq, Repr

/-- The service responder (R191, R192). -/
structure Responder where
  pendingCheck : Option (BitVec 5)
  pendingRestart : Bool
  deriving DecidableEq, Repr

/-- Where the start sequence stands (R194): not begun (the part is held in its reset state), step 2, step 3, the reference check
of step 6, the wait of step 7, or one of the three outcomes of R156. -/
inductive StartPhase where
  | off
  | crystal
  | reading
  | checking
  | waiting
  | complete
  | failed
  | configBad
  deriving DecidableEq, Repr

/-- The part's clock source (R196). -/
inductive ClockSource where
  | undecided
  | crystal
  | internal
  deriving DecidableEq, Repr

/-- The start-up loader (R194 to R201). -/
structure Loader where
  phase : StartPhase
  /-- The straps as sampled at step 1 (R195). -/
  straps : BitVec 5
  clock : ClockSource
  /-- The block bytes as read (R197), none while no block has been read. -/
  block : Option (List Byte)
  config : Option Configuration
  /-- The start wait timer of R200. -/
  waitTimer : Option Nat
  deriving DecidableEq, Repr

/-- The pins (11_start_up_and_configuration.md, Connections): input levels as last seen, and the outputs as driven, heaters and
lifts in physical order, a lift true while asserted. -/
structure Pins where
  straps : BitVec 5
  resetInput : Bool
  stopInput : Bool
  openSensor : Bool
  closedSensor : Bool
  heaters : List Bool
  lifts : List Bool
  openValve : Bool
  closeValve : Bool
  permit : Bool
  alarm : Bool
  deriving DecidableEq, Repr

/-- The whole part: its blocks and its pins. -/
structure Part where
  port : LinePort
  tracker : Tracker
  sampling : Sampling
  regulator : Regulator
  sequencer : Sequencer
  dose : Dose
  control : ModeController
  monitor : Monitor
  log : DwellLog
  responder : Responder
  loader : Loader
  pins : Pins
  deriving DecidableEq, Repr

/-- The state of the model: the commands that wait, first in, first out, and the part. -/
structure State where
  pending : List Instr
  part : Part
  deriving DecidableEq, Repr

/-- The reasons a step can stop with a fault. Nothing the spec describes stops the part: its own faults are the mode FAULT, an
effect on its state (R164). No meaning raises this. -/
inductive Fault where
  /-- Raised by nothing; it stands here so that the type has a member. Safe: no step ends in it. -/
  | neverRaised
  deriving DecidableEq, Repr

/-- The reasons a command can be refused. -/
inductive Refusal where
  /-- Raised by exec for a command that has no meaning yet. Safe: the step stops. No arm of exec raises it now. -/
  | notModelled (mnemonic : String)
  deriving DecidableEq, Repr

/-- A channel after reset (R92). -/
def Channel.reset : Channel := { temp := 0, isOpen := false, recovery := 0, overheat := false }

/-- A heater after reset (R111). -/
def Heater.reset : Heater := { duty := 0, applied := 0, on := false, seen := false }

/-- A lane of the dose integrator after reset (R154). -/
def LaneDose.reset : LaneDose :=
  { aim := 0, acc := 0, contact := .ended, lift := none, sensorEnd := false, drift := false, sampled := false }

/-- A counter after POWER-ON (R182). -/
def Counter.reset : Counter := { value := 0, wrap := false }

/-- A programmable counter's controls and edge memory after POWER-ON (R182). -/
def Control.reset : Control :=
  { select := 0, mask := 0, threshold := 0, invert := false, edge := false, enable := false, memory := false }

/-- The fault record when cleared (R165). -/
def FaultRecord.cleared : FaultRecord := { code := 0, h := none, count := 0, further := 0 }

/-- The line port after reset (R26); the line is not yet declared quiet. -/
def LinePort.reset : LinePort := { quiet := false, waitQuiet := false, receiving := false, clashCount := 0, queue := [] }

/-- The index tracker after reset (R48). -/
def Tracker.reset : Tracker :=
  { h := none, records := [], candidate := none, candidateCount := 0, skew := none, pendingRealign := none, lastEdge := none,
    lastPeriod := none, indexCount := 0, chatter := false, quietCount := 0, msCount := 0 }

/-- The sampling unit after reset (R92), with the factory value stored in the part. -/
def Sampling.reset (factory : Nat) : Sampling :=
  { channels := List.replicate 8 Channel.reset, pressure := 0, drift := false, converterFault := false, check := none,
    factory := factory }

/-- The heater regulator after reset (R111). -/
def Regulator.reset : Regulator :=
  { heaters := List.replicate 8 Heater.reset, setpoint := 0, idleClock := 0, idle := false, draws := [], scale := 256,
    listen := 0, ticks := 0, periods := 0 }

/-- The platen sequencer after reset (R131). -/
def Sequencer.reset : Sequencer :=
  { platen := .opening, settleTimer := none, closeTimer := none, openTimer := none, dryTimer := none, dryDue := false,
    dry := none, closeTimeouts := 0, dwellLimit := 0 }

/-- The dose integrator after reset (R154). -/
def Dose.reset : Dose :=
  { lanes := List.replicate 8 LaneDose.reset, closeCommanded := false, samples := 0, lost := 0, drift := false,
    scaleAtStart := 256, cut := false, underCount := 0 }

/-- The mode controller after reset (R171). -/
def ModeController.reset : ModeController :=
  { mode := .start, lineStop := false, operatorHold := false, fault := FaultRecord.cleared, alarms := 0 }

/-- The monitor after POWER-ON (R182). -/
def Monitor.reset : Monitor :=
  { counters := List.replicate 7 Counter.reset, controls := List.replicate 6 Control.reset, frozen := none, snapshot := none }

/-- The dwell log after POWER-ON (R187). -/
def DwellLog.reset : DwellLog := { entries := [], overflow := 0 }

/-- The service responder after reset (R193). -/
def Responder.reset : Responder := { pendingCheck := none, pendingRestart := false }

/-- The start-up loader after reset, its sequence not begun (R201). -/
def Loader.reset : Loader :=
  { phase := .off, straps := 0, clock := .undecided, block := none, config := none, waitTimer := none }

/-- The pins right after reset: outputs as R111, R131 and R171 say; every input taken as inactive (DESIGN CHOICE, unsafe: the
levels come from outside; log 6). -/
def Pins.reset : Pins :=
  { straps := 0, resetInput := false, stopInput := false, openSensor := false, closedSensor := false,
    heaters := List.replicate 8 false, lifts := List.replicate 8 true, openValve := true, closeValve := false,
    permit := false, alarm := false }

/-- The part right after POWER-ON's reset, its start sequence not begun. The factory value 2048 is the one of the manual's worked
checks (DESIGN CHOICE, unsafe: each part has its own; log 7). -/
def Part.reset : Part :=
  { port := LinePort.reset, tracker := Tracker.reset, sampling := Sampling.reset 2048, regulator := Regulator.reset,
    sequencer := Sequencer.reset, dose := Dose.reset, control := ModeController.reset, monitor := Monitor.reset,
    log := DwellLog.reset, responder := Responder.reset, loader := Loader.reset, pins := Pins.reset }

/-- The machine right after reset: no command waits, every block as its own chapter's reset rule leaves it after POWER-ON. -/
def State.reset : State := { pending := [], part := Part.reset }

end Sys2Proof.Machine
end

