-- ==== Sys2Proof/Machine/Settings.lean ====
section
/-! DEFINITION. What the blocks read of the configuration in force, the mapping of lanes and channels (R54), byte laying (R5), and
tag arithmetic (R32). -/

namespace Sys2Proof.Machine

/-! ## The configuration in force -/

/-- The configuration in force as the blocks read it: no lane in use while none is (R73, R199). -/
def cfg (p : Part) : Configuration := p.loader.config.getD Configuration.blank

/-- Lane reversal (R16, R54). -/
def reversal (c : Configuration) : Bool := c.options.getLsbD 7

/-- Start-mark tolerance (R2, R16). -/
def markTolerance (c : Configuration) : Bool := c.options.getLsbD 6

/-- Clear-on-status-read (R16, R170). -/
def clearOnStatusRead (c : Configuration) : Bool := c.options.getLsbD 5

/-- Freeze-on-stop (R16, R179). -/
def freezeOnStop (c : Configuration) : Bool := c.options.getLsbD 4

/-- Log mode OVERWRITE, else STOP (R16, R184). -/
def logOverwrites (c : Configuration) : Bool := c.options.getLsbD 3

/-- Card-unknown policy PRESS, else HOLD (R16, R65). -/
def cardUnknownPress (c : Configuration) : Bool := c.options.getLsbD 2

/-- Load-unknown policy HOLD, else PRESS (R16, R65). -/
def loadUnknownHold (c : Configuration) : Bool := c.options.getLsbD 1

/-- The nominal share of stage j (R16, R64). -/
def share (c : Configuration) (j : Nat) : Nat :=
  match j with
  | 1 => c.share1
  | 2 => c.share2
  | 3 => c.share3
  | 4 => c.share4
  | _ => 0

/-- This node is the final stage: k equals nS (R134). -/
def finalStage (c : Configuration) : Bool := c.stage == c.stages

/-- The lanes in use, 0 to n−1. -/
def lanesInUse (c : Configuration) : List Nat := List.range c.lanes

/-! ## Lanes and channels -/

/-- The physical channel that serves line lane `lane`, below n (R54). -/
def channelOf (c : Configuration) (lane : Nat) : Nat := if reversal c then c.lanes - 1 - lane else lane

/-- The sampling unit's channel that serves a lane in use (R54, R85). -/
def laneChannel (p : Part) (lane : Nat) : Channel :=
  p.sampling.channels.getD (channelOf (cfg p) lane) Channel.reset

/-- The lane's channel is OPEN or OVERHEAT (R65 row 2, R97). -/
def laneUnfit (p : Part) (lane : Nat) : Bool := (laneChannel p lane).isOpen || (laneChannel p lane).overheat

/-! ## The station number -/

/-- The station number, when the straps have been sampled and gave 1 to 30 (R195); none also stands for straps of 0 or 31. -/
def ownStation (p : Part) : Option (BitVec 5) :=
  if p.loader.phase = .off ∨ p.loader.straps = 0 ∨ p.loader.straps = 31 then none else some p.loader.straps

/-! ## Bytes -/

/-- The two bytes of a 16-bit field, most significant first (R5). -/
def bytes16 (n : Nat) : List Byte := [BitVec.ofNat 8 (n / 256), BitVec.ofNat 8 n]

/-- The four bytes of a 32-bit field, most significant first (R5). -/
def bytes32 (n : Nat) : List Byte := bytes16 (n / 65536) ++ bytes16 n

/-- The five bytes of a 40-bit counter, most significant first (R5, R12). -/
def bytes40 (n : Nat) : List Byte := BitVec.ofNat 8 (n / 4294967296) :: bytes32 n

/-- One byte of a number. -/
def byteOf (n : Nat) : Byte := BitVec.ofNat 8 n

/-- A byte made of eight bits, bit c from `f c`. -/
def byteOfBits (f : Nat → Bool) : Byte :=
  byteOf ((List.range 8).foldl (fun acc c => if f c then acc + 2 ^ c else acc) 0)

/-- Byte i of a list of bytes, 0 where it has none. -/
def byteAt (bs : List Byte) (i : Nat) : Nat := (bs.getD i 0).toNat

/-- The 16-bit field at byte i, most significant byte first (R5). -/
def fieldAt (bs : List Byte) (i : Nat) : Nat := byteAt bs i * 256 + byteAt bs (i + 1)

/-- The tag in bytes i and i+1. -/
def tagAt (bs : List Byte) (i : Nat) : Tag := BitVec.ofNat 16 (fieldAt bs i)

/-- The signed byte i (R5). -/
def signedByteAt (bs : List Byte) (i : Nat) : Int := (bs.getD i 0).toInt

/-! ## Row tags -/

/-- The signed difference from tag a to tag b, −32768 to 32767 (R32). -/
def tagDiff (a b : Tag) : Int := (b - a).toInt

/-- a + m for a signed m, modulo 65536 (R32). -/
def tagAdd (a : Tag) (m : Int) : Tag := a + BitVec.ofInt 16 m

/-- min(a, b) of R32. -/
def tagMin (a b : Tag) : Tag := if 0 ≤ tagDiff a b then a else b

/-- max(a, b) of R32. -/
def tagMax (a b : Tag) : Tag := if 0 ≤ tagDiff a b then b else a

/-- The tag is one of the tags from a to b (R32): none when b is below a. -/
def tagBetween (a b t : Tag) : Bool := decide (0 ≤ tagDiff a b) && decide ((t - a).toNat ≤ (b - a).toNat)

/-- The tag lies in the window of H: its difference from H is 0 to 47 (R32). -/
def inWindow (h t : Tag) : Bool := decide (0 ≤ tagDiff h t) && decide (tagDiff h t ≤ 47)

/-! ## Clamping -/

/-- x replaced by the nearest end of lo to hi (00_scope.md, Units and ranges). -/
def clampInt (x lo hi : Int) : Int := max lo (min hi x)

/-- x replaced by the nearest end of lo to hi, for counts. -/
def clampNat (x lo hi : Nat) : Nat := max lo (min hi x)

/-- A sum that stops at 65535 (00_scope.md, Units and ranges). -/
def saturate16 (x : Nat) : Nat := min 65535 x

/-! ## Lists -/

/-- The list with the function applied to its element at place i, when it has one. -/
def updateAt {α : Type} (l : List α) (i : Nat) (f : α → α) : List α :=
  match l, i with
  | [], _ => []
  | x :: xs, 0 => f x :: xs
  | x :: xs, i + 1 => x :: updateAt xs i f

/-- Each element of the list, with its place, through f; the first place is `i`. -/
def mapFrom {α β : Type} (f : Nat → α → β) (i : Nat) (l : List α) : List β :=
  match l with
  | [] => []
  | x :: xs => f i x :: mapFrom f (i + 1) xs

/-- Each element of the list, with its place counted from 0, through f. -/
def mapIndexed {α β : Type} (f : Nat → α → β) (l : List α) : List β := mapFrom f 0 l

end Sys2Proof.Machine
end

