-- ==== Sys2Proof/Machine/Flags.lean ====
section
/-! DEFINITION. The alarm raw flags (R13, R167) and the monitor's counting (R172 to R178). -/

namespace Sys2Proof.Machine

/-! ## Alarm raw flags -/

/-- The sixteen alarm raw flags, bit 0 first (R13). -/
inductive Alarm where
  | closeTimeout
  | openTimeout
  | forcedIndex
  | sensorOpen
  | overheat
  | converterDrift
  | realigned
  | lineQuiet
  | txOverflow
  | stationClash
  | stageConflict
  | supplyShort
  | logOverflow
  | configClamped
  | clockFallback
  | underRun
  deriving DecidableEq, Repr

/-- The bit of a flag (R13). -/
def alarmBit (a : Alarm) : Nat :=
  match a with
  | .closeTimeout => 0
  | .openTimeout => 1
  | .forcedIndex => 2
  | .sensorOpen => 3
  | .overheat => 4
  | .converterDrift => 5
  | .realigned => 6
  | .lineQuiet => 7
  | .txOverflow => 8
  | .stationClash => 9
  | .stageConflict => 10
  | .supplyShort => 11
  | .logOverflow => 12
  | .configClamped => 13
  | .clockFallback => 14
  | .underRun => 15

/-- The word with only that flag's bit set. -/
def alarmWord (a : Alarm) : BitVec 16 := BitVec.ofNat 16 (2 ^ alarmBit a)

/-- The flag is set (R167). -/
def alarmSet (a : Alarm) (p : Part) : Bool := p.control.alarms.getLsbD (alarmBit a)

/-- Raising a flag sets it; raising a set flag leaves it set (R167). -/
def raise (a : Alarm) (p : Part) : Part :=
  { p with control := { p.control with alarms := p.control.alarms ||| alarmWord a } }

/-- Raising a flag when a condition holds. -/
def raiseIf (b : Bool) (a : Alarm) (p : Part) : Part := if b then raise a p else p

/-- The alarm enable mask: every bit set until a configuration is in force (R169). -/
def enableMask (p : Part) : BitVec 16 :=
  match p.loader.config with
  | none => BitVec.allOnes 16
  | some c => c.alarmMask

/-! ## Monitor events -/

/-- The events of the Event Select Summary (R174, R176). -/
inductive Event where
  | index
  | indexChatter
  | lanePressed
  | laneSkipped
  | verdictSealed
  | verdictUnder
  | verdictOver
  | verdictDoubt
  | laneDose
  | dwellLength
  | frameReceived
  | frameBadCheck
  | frameLate
  | frameBeyond
  | frameSent
  | arbLost
  | txDropped
  | revised
  | oddCode
  | skewEvidence
  | realign
  | txqOccupancy
  | heaterOn
  | belowSetpoint
  | budgetScaled
  | platenNotOpen
  | contactLost
  | stopped
  deriving DecidableEq, Repr

/-- The event's select code, 1 to 28; code 0 counts nothing (R173, Event Select Summary). -/
def eventCode (e : Event) : Nat :=
  match e with
  | .index => 1
  | .indexChatter => 2
  | .lanePressed => 3
  | .laneSkipped => 4
  | .verdictSealed => 5
  | .verdictUnder => 6
  | .verdictOver => 7
  | .verdictDoubt => 8
  | .laneDose => 9
  | .dwellLength => 10
  | .frameReceived => 11
  | .frameBadCheck => 12
  | .frameLate => 13
  | .frameBeyond => 14
  | .frameSent => 15
  | .arbLost => 16
  | .txDropped => 17
  | .revised => 18
  | .oddCode => 19
  | .skewEvidence => 20
  | .realign => 21
  | .txqOccupancy => 22
  | .heaterOn => 23
  | .belowSetpoint => 24
  | .budgetScaled => 25
  | .platenNotOpen => 26
  | .contactLost => 27
  | .stopped => 28

/-- The largest 40-bit value and one (R172). -/
def counterModulus : Nat := 1099511627776

/-- An addition to a counter: past the top it takes the remainder and sets its wrap flag (R172); adding 0
changes nothing (R175). -/
def addTo (c : Counter) (amount : Nat) : Counter :=
  if amount = 0 then c
  else if c.value + amount < counterModulus then { c with value := c.value + amount }
  else { value := (c.value + amount) % counterModulus, wrap := true }

/-- What a counter adds at an occurrence of the given amount (R175). -/
def added (t : Control) (amount : Nat) : Nat :=
  if t.threshold = 0 then amount
  else if t.invert then (if amount < t.threshold then 1 else 0)
  else (if t.threshold ≤ amount then 1 else 0)

/-- The counters with an addition to programmable counter i of `amountOf` its controls; counter 6 is left (R172). -/
def addEach (amountOf : Control → Nat) (controls : List Control) (counters : List Counter) : List Counter :=
  match controls, counters with
  | t :: ts, c :: cs => addTo c (amountOf t) :: addEach amountOf ts cs
  | _, cs => cs

/-- The monitor with every programmable counter's addition made, unless it is frozen (R179). -/
def addAll (amountOf : Control → Nat) (m : Monitor) : Monitor :=
  if m.frozen.isSome then m else { m with counters := addEach amountOf m.controls m.counters }

/-- A station event is counted by every enabled counter that selects it, whatever its lane mask (R174, R175). -/
def occur (e : Event) (amount : Nat) (m : Monitor) : Monitor :=
  addAll (fun t => if t.enable && t.select == eventCode e then added t amount else 0) m

/-- A lane event at one lane is counted by every enabled counter that selects it and whose mask holds the lane (R174, R175). -/
def occurLane (e : Event) (lane amount : Nat) (m : Monitor) : Monitor :=
  addAll (fun t => if t.enable && t.select == eventCode e && t.mask.getLsbD lane then added t amount else 0) m

/-- The part with a station event of amount 1 counted. -/
def count (e : Event) (p : Part) : Part := { p with monitor := occur e 1 p.monitor }

/-- The part with a station event of the given amount counted. -/
def countAmount (e : Event) (amount : Nat) (p : Part) : Part := { p with monitor := occur e amount p.monitor }

/-- The part with the event counted once for each of `k` lanes, without regard to masks (R174, REVISED and ODD_CODE). -/
def countTimes (e : Event) (k : Nat) (p : Part) : Part :=
  match k with
  | 0 => p
  | k + 1 => countTimes e k (count e p)

/-- The part with a lane event counted at each of the lanes listed, each with its amount. -/
def countLanes (e : Event) (lanes : List (Nat × Nat)) (p : Part) : Part :=
  { p with monitor := lanes.foldl (fun m x => occurLane e x.1 x.2 m) p.monitor }

end Sys2Proof.Machine
end

