-- ==== Sys2Proof/Machine/Frames.lean ====
section
/-! DEFINITION. Frame kinds, priorities and payload layouts (R5 to R12), written once for the frames this part sends. -/

namespace Sys2Proof.Machine

/-- The code of a role in the header (R5). -/
def roleCode (r : Role) : Nat :=
  match r with
  | .form => 0
  | .load => 1
  | .card => 2
  | .sealer => 3
  | .punch => 4
  | .reject => 5
  | .drive => 6
  | .tool => 7

/-- The role of a code 0 to 7 (R5). -/
def roleOf (n : Nat) : Role :=
  match n with
  | 0 => .form
  | 1 => .load
  | 2 => .card
  | 3 => .sealer
  | 4 => .punch
  | 5 => .reject
  | 6 => .drive
  | _ => .tool

/-- The code of a verdict (R9). -/
def verdictCode (v : Verdict) : Nat :=
  match v with
  | .pending => 0
  | .sealed => 1
  | .under => 2
  | .over => 3
  | .doubt => 4
  | .skipped => 5

/-- The verdict of a code, none above 5 (R9). -/
def verdictOf (n : Nat) : Option Verdict :=
  match n with
  | 0 => some .pending
  | 1 => some .sealed
  | 2 => some .under
  | 3 => some .over
  | 4 => some .doubt
  | 5 => some .skipped
  | _ => none

/-- The code of a reason (R9). -/
def reasonCode (r : Reason) : Nat :=
  match r with
  | .none => 0
  | .station => 1
  | .noHeat => 2
  | .upstream => 3
  | .overdose => 4
  | .noCard => 5
  | .badForm => 6
  | .crush => 7
  | .unknown => 8
  | .missed => 9
  | .notNeeded => 10

/-- The reason of a code, none above 10 (R9). -/
def reasonOf (n : Nat) : Option Reason :=
  match n with
  | 0 => some .none
  | 1 => some .station
  | 2 => some .noHeat
  | 3 => some .upstream
  | 4 => some .overdose
  | 5 => some .noCard
  | 6 => some .badForm
  | 7 => some .crush
  | 8 => some .unknown
  | 9 => some .missed
  | 10 => some .notNeeded
  | _ => none

/-- The kind code of a frame of this part (R7). -/
def kindCode (b : FrameBody) : Nat :=
  match b with
  | .lineStop _ => 2
  | .sealReport _ => 6
  | .voidNotice _ _ _ _ => 7
  | .drawNotice _ _ _ => 10
  | .serviceReply _ _ _ _ => 21

/-- The priority at which this part sends a kind (R7). -/
def priority (b : FrameBody) : Nat :=
  match b with
  | .lineStop _ => 0
  | .sealReport _ => 2
  | .voidNotice _ _ _ _ => 2
  | .drawNotice _ _ _ => 4
  | .serviceReply _ _ _ _ => 6

/-- The status code of a reply (R12). -/
def statusCode (s : ReplyStatus) : Nat :=
  match s with
  | .done => 1
  | .refused => 2
  | .bad => 3
  | .empty => 4

/-- The cause code of a VOID NOTICE (R10). -/
def voidCauseCode (c : VoidCause) : Nat :=
  match c with
  | .realign => 1
  | .resync => 2
  | .faultClear => 3

/-- The class code of a DRAW NOTICE and of the configuration block (R10, R16). -/
def classCode (c : DrawClass) : Nat :=
  match c with
  | .a => 0
  | .b => 1

/-- 1 for true. -/
def bitOf (b : Bool) : Nat := if b then 1 else 0

/-- A flag byte with bit c for lane c of the report, 0 beyond its lanes (R9). -/
def laneFlags (f : ReportLane → Bool) (lanes : List ReportLane) : Byte :=
  byteOfBits (fun c => match lanes[c]? with
    | some l => f l
    | none => false)

/-- The three bytes of one lane of a SEAL REPORT (R9). -/
def reportLaneBytes (l : ReportLane) : List Byte :=
  bytes16 l.dose ++ [byteOf (verdictCode l.verdict * 16 + reasonCode l.reason)]

/-- The payload of a SEAL REPORT (R9, R150). -/
def reportBytes (r : SealReport) : List Byte :=
  bytes16 r.tag.toNat ++
    [byteOf ((r.stage - 1) * 64 + bitOf r.final * 32 + bitOf r.noContact * 16 + bitOf r.forced * 8 + bitOf r.drift * 4),
      laneFlags ReportLane.assumed r.lanes, laneFlags ReportLane.voided r.lanes, laneFlags ReportLane.sensor r.lanes] ++
    r.lanes.flatMap reportLaneBytes

/-- The payload of a frame of this part (R9, R10, R12). -/
def payloadBytes (b : FrameBody) : List Byte :=
  match b with
  | .lineStop .input => [1, 1]
  | .lineStop .fault => [1, 2]
  | .sealReport r => reportBytes r
  | .voidNotice first last stage cause =>
      bytes16 first.toNat ++ bytes16 last.toNat ++ [byteOf stage, byteOf (voidCauseCode cause)]
  | .drawNotice feed cls demand => byteOf (feed * 64 + classCode cls * 32) :: bytes16 demand
  | .serviceReply requester code status data =>
      byteOf requester.toNat :: code :: byteOf (statusCode status) :: data

end Sys2Proof.Machine
end

