-- ==== Sys2Proof/Machine/Wire.lean ====
section
/-! DEFINITION. The row line bit by bit (R2 to R5): start mark, stuffing, check, the frame as sent and the frame as taken in.
A bit is true while recessive (1), false while dominant (0). -/

namespace Sys2Proof.Machine

/-- The start mark, first bit in the most significant place (R2): 0, 1, 0, 0, 1, 1, 0, 1. -/
def startMark : Byte := 0x4D

/-- The number of set bits of a byte. -/
def setBits (b : Byte) : Nat := ((List.range 8).filter (fun i => b.getLsbD i)).length

/-- A receiver accepts a mark that agrees with the start mark, or differs in one bit while the tolerance option is set (R2). -/
def markAccepted (tolerance : Bool) (mark : Byte) : Bool :=
  let differing := setBits (mark ^^^ startMark)
  differing == 0 || (tolerance && differing == 1)

/-- The low `n` bits of a number, most significant first (R5). -/
def bitsOf (n x : Nat) : List Bool :=
  match n with
  | 0 => []
  | n + 1 => x.testBit n :: bitsOf n x

/-- The number whose bits, most significant first, are given. -/
def ofBits (bs : List Bool) : Nat := bs.foldl (fun acc b => 2 * acc + bitOf b) 0

/-- The bits of bytes, most significant bit of each first (R5). -/
def bitsOfBytes (bs : List Byte) : List Bool := bs.flatMap (fun b => bitsOf 8 b.toNat)

/-- The bytes of a list of bits, eight to a byte; `n` bytes are taken. -/
def bytesOfBits (n : Nat) (bs : List Bool) : List Byte :=
  match n with
  | 0 => []
  | n + 1 => byteOf (ofBits (bs.take 8)) :: bytesOfBits n (bs.drop 8)

/-- Stuffing: after ten consecutive recessive bits a dominant bit is inserted before the next bit (R3). `run` counts the
recessive bits just sent. -/
def stuff (run : Nat) (bs : List Bool) : List Bool :=
  match bs with
  | [] => []
  | b :: rest =>
    if run = 10 then false :: b :: stuff (if b then 1 else 0) rest
    else b :: stuff (if b then run + 1 else 0) rest

/-- Destuffing: after ten consecutive recessive bits the next bit is expected dominant and discarded; a recessive bit there
breaks the frame (R3). The result is the bits taken in and whether the frame was broken after them. -/
def destuff (run : Nat) (bs : List Bool) : List Bool × Bool :=
  match bs with
  | [] => ([], false)
  | b :: rest =>
    if run = 10 then (if b then ([], true) else destuff 0 rest)
    else
      let r := destuff (if b then run + 1 else 0) rest
      (b :: r.1, r.2)

/-- The check's polynomial without its x^16 term: bits 13, 12, 11, 7, 6, 3 and 0 (R4). -/
def checkPattern : BitVec 16 := 0x38C9

/-- One step of the check register (R4). -/
def checkStep (reg : BitVec 16) (bit : Bool) : BitVec 16 :=
  let shifted := reg <<< 1
  if reg.msb == bit then shifted else shifted ^^^ checkPattern

/-- The check of header and payload bits: the register starts with all bits set (R4). -/
def checkOf (bs : List Bool) : BitVec 16 := bs.foldl checkStep (BitVec.allOnes 16)

/-- A whole frame as taken in: kind, header and payload (R5). -/
structure RxFrame where
  kind : BitVec 5
  header : Header
  payload : List Byte
  deriving DecidableEq, Repr

/-- The six header bytes of a frame (R5). -/
def headerBytes (f : RxFrame) : List Byte :=
  [byteOf (f.header.priority.toNat * 32 + f.kind.toNat), byteOf (f.header.station.toNat * 8 + roleCode f.header.role),
    f.header.position] ++ bytes16 f.header.hereTag.toNat ++ [byteOf f.payload.length]

/-- Header and payload bits, in the order sent (R5). -/
def contentBits (f : RxFrame) : List Bool := bitsOfBytes (headerBytes f ++ f.payload)

/-- Everything that follows the start mark on the wire: header, payload and check, stuffed; the run of recessive bits begins at
the mark's last bit (R3, R4, R5). -/
def tailBits (f : RxFrame) : List Bool :=
  stuff 1 (contentBits f ++ bitsOf 16 (checkOf (contentBits f)).toNat)

/-- The frame as the port puts it on the line (R5). -/
def wireBits (f : RxFrame) : List Bool := bitsOf 8 startMark.toNat ++ tailBits f

/-- Why a frame is dropped as a frame with a bad check (R23). -/
inductive BadFrame where
  | checkDisagrees
  | brokenStuffing
  | earlyQuiet
  | tooLong
  deriving DecidableEq, Repr

/-- What a receiver makes of the bits after an accepted mark. -/
inductive Reception where
  | whole (f : RxFrame)
  | bad (why : BadFrame)
  deriving DecidableEq, Repr

/-- The frame that 48 header bits and the bits after them spell (R5). -/
def readFrame (n : Nat) (bs : List Bool) : RxFrame :=
  { kind := BitVec.ofNat 5 (ofBits ((bs.drop 3).take 5)),
    header :=
      { priority := BitVec.ofNat 3 (ofBits (bs.take 3)),
        station := BitVec.ofNat 5 (ofBits ((bs.drop 8).take 5)),
        role := roleOf (ofBits ((bs.drop 13).take 3)),
        position := byteOf (ofBits ((bs.drop 16).take 8)),
        hereTag := BitVec.ofNat 16 (ofBits ((bs.drop 24).take 16)) },
    payload := bytesOfBits n (bs.drop 48) }

/-- A receiver takes in the bits after the mark (R3, R4, R5, R23): a length above 32 ends the reception at the header, a
recessive bit in a stuff bit's place ends it there, and bits that end before the check are cut short by the quiet line. The run of
recessive bits starts at 1, with the last bit of the mark, whatever that bit was read as where the mark was accepted under tolerance
(DESIGN CHOICE, unsafe, log 45). -/
def receiveBits (bits : List Bool) : Reception :=
  let taken := (destuff 1 bits).1
  let broken := (destuff 1 bits).2
  let n := ofBits ((taken.drop 40).take 8)
  if 48 ≤ taken.length ∧ 32 < n then .bad .tooLong
  else if 64 + 8 * n ≤ taken.length then
    if (checkOf (taken.take (48 + 8 * n))).toNat = ofBits ((taken.drop (48 + 8 * n)).take 16) then .whole (readFrame n taken)
    else .bad .checkDisagrees
  else if broken then .bad .brokenStuffing
  else .bad .earlyQuiet

/-- A frame of this part's queue as a whole frame: priority and kind by R7, own station, role SEAL (R6). -/
def builtFrame (own : BitVec 5) (f : TxFrame) : RxFrame :=
  { kind := BitVec.ofNat 5 (kindCode f.body),
    header :=
      { priority := BitVec.ofNat 3 (priority f.body), station := own, role := .sealer, position := f.position,
        hereTag := f.hereTag },
    payload := payloadBytes f.body }

/-- The bits of the start mark and the arbitration field: priority, kind and sender station (R5, R18). A frame of this part
takes no stuff bit among them: the third priority bit is dominant in every priority it sends, and the ten bits of kind and
station that follow are never all recessive. -/
def arbitrationBits : Nat := 21

/-- A mismatch at that bit is a lost arbitration: sent recessive, so read dominant, within the mark or the arbitration field (R18). -/
def arbitrationAt (own : BitVec 5) (f : TxFrame) (bit : Nat) : Bool :=
  decide (bit < arbitrationBits) && (wireBits (builtFrame own f)).getD bit false

/-- A mismatch at that bit is a clash: sent dominant, so read recessive, or past the arbitration field (R18). -/
def clashAt (own : BitVec 5) (f : TxFrame) (bit : Nat) : Bool :=
  decide (bit < (wireBits (builtFrame own f)).length) && !arbitrationAt own f bit

end Sys2Proof.Machine
end

