-- ==== Sys2Proof/Machine/Ops.lean ====
section
/-! DEFINITION. The shared operations of the line port (R17 to R22), the dwell log (R183, R184) and the line-stop flag with the
freeze it brings about (R159, R179). -/

namespace Sys2Proof.Machine

/-! ## The transmit queue -/

/-- A SEAL REPORT or a VOID NOTICE: the kinds with an expiry age (R21). -/
def ages (b : FrameBody) : Bool :=
  match b with
  | .sealReport _ => true
  | .voidNotice _ _ _ _ => true
  | _ => false

/-- A SERVICE REPLY. -/
def isReply (b : FrameBody) : Bool :=
  match b with
  | .serviceReply _ _ _ _ => true
  | _ => false

/-- A DRAW NOTICE. -/
def isDraw (b : FrameBody) : Bool :=
  match b with
  | .drawNotice _ _ _ => true
  | _ => false

/-- The row tag of a SEAL REPORT. -/
def reportTag (b : FrameBody) : Option Tag :=
  match b with
  | .sealReport r => some r.tag
  | _ => none

/-- The frame takes its place behind every queued frame of its own or a lower priority value (R20). -/
def place (f : TxFrame) (q : List TxFrame) : List TxFrame :=
  match q with
  | [] => [f]
  | g :: gs => if priority g.body ≤ priority f.body then g :: place f gs else f :: g :: gs

/-- The first queued frame that a joining frame replaces: a DRAW NOTICE, or the SEAL REPORT with the same row tag (R20). -/
def replaces (f g : TxFrame) : Bool :=
  match f.body with
  | .drawNotice _ _ _ => isDraw g.body
  | .sealReport r => reportTag g.body == some r.tag
  | _ => false

/-- The largest priority value among the queued frames not in transmission, 0 when there is none (R22). -/
def worstPriority (q : List TxFrame) : Nat :=
  q.foldl (fun m g => if g.sending then m else max m (priority g.body)) 0

/-- The list without its last element that satisfies the test. -/
def eraseLast (t : TxFrame → Bool) (q : List TxFrame) : List TxFrame := (q.reverse.eraseP t).reverse

/-- The part with another transmit queue. -/
def withQueue (q : List TxFrame) (p : Part) : Part := { p with port := { p.port with queue := q } }

/-- The queue that a joining frame meets (R20, R22): a replacement where R20 calls for one, else a place by priority, else the
full-queue rule. -/
def joinQueue (f : TxFrame) (p : Part) : Part :=
  match p.port.queue.find? (replaces f) with
  | some g =>
    if isDraw f.body then
      if g.sending then p else withQueue (place f (p.port.queue.eraseP (replaces f))) p
    else
      if g.sending then count .txDropped p
      else count .txDropped (withQueue (place f (p.port.queue.eraseP (replaces f))) p)
  | none =>
    if p.port.queue.length < 16 then withQueue (place f p.port.queue) p
    else
      let p := raise .txOverflow (count .txDropped p)
      let worst := worstPriority p.port.queue
      if priority f.body < worst then
        withQueue (place f (eraseLast (fun g => !g.sending && priority g.body == worst) p.port.queue)) p
      else p

/-- A frame of the port's own is in transmission (R17). -/
def transmitting (p : Part) : Bool := p.port.queue.any TxFrame.sending

/-- The head of the queue begins its transmission (R17). -/
def startHead (q : List TxFrame) : List TxFrame :=
  match q with
  | [] => []
  | f :: fs => { f with sending := true } :: fs

/-- A transmission begins when the line is quiet, none of the port's own is in transmission, a frame waits and the station number
is valid; its start bit ends the quiet (R1, R17, R26). -/
def tryBegin (p : Part) : Part :=
  if p.port.quiet && !transmitting p && !p.port.queue.isEmpty && (ownStation p).isSome then
    { p with port := { p.port with quiet := false, queue := startHead p.port.queue } }
  else p

/-- A frame built now: own position and H, or position 255 and tag 0 while no H is held (R6). -/
def buildFrame (b : FrameBody) (p : Part) : TxFrame :=
  { body := b,
    position := match p.tracker.h with
      | some _ => byteOf (cfg p).position
      | none => 255,
    hereTag := p.tracker.h.getD 0, age := 0, sending := false, lapsed := false, restartReply := false }

/-- A built frame joins the transmit queue (R20, R22); joining a quiet line's empty queue begins its transmission (R17). -/
def join (f : TxFrame) (p : Part) : Part := tryBegin (joinQueue f p)

/-- A block builds a frame and it joins the transmit queue (R6, R20). -/
def send (b : FrameBody) (p : Part) : Part := join (buildFrame b p) p

/-- A queued SEAL REPORT or VOID NOTICE has reached age 2 (R21). -/
def expired (f : TxFrame) : Bool := ages f.body && decide (2 ≤ f.age)

/-- One accepted index added to a frame's expiry age, which counts to 2 (R21). -/
def ageFrame (f : TxFrame) : TxFrame := if ages f.body then { f with age := min 2 (f.age + 1) } else f

/-- An accepted index ages the queue; a frame at age 2 that is not in transmission leaves, counted TX_DROPPED (R21). -/
def ageQueue (p : Part) : Part :=
  let q := p.port.queue.map ageFrame
  countTimes .txDropped (q.filter (fun f => expired f && !f.sending)).length
    (withQueue (q.filter (fun f => !(expired f && !f.sending))) p)

/-- The frame in transmission, if any. -/
def sendingFrame (p : Part) : Option TxFrame := p.port.queue.find? TxFrame.sending

/-- The transmission ends with the frame unsent: it keeps its place, unless it expired meanwhile, and then it leaves, counted
TX_DROPPED (R18, R21). -/
def endUnsent (p : Part) : Part :=
  let q := p.port.queue.map (fun f => { f with sending := false })
  match sendingFrame p with
  | none => p
  | some f =>
    if expired f || f.lapsed then count .txDropped (withQueue (p.port.queue.eraseP TxFrame.sending) p) else withQueue q p

/-- The transmission ends with the frame sent: it leaves the queue and FRAME_SENT is counted (R19). -/
def endSent (p : Part) : Part :=
  match sendingFrame p with
  | none => p
  | some _ => count .frameSent (withQueue (p.port.queue.eraseP TxFrame.sending) p)

/-- A reply whose 500 ms have not passed before. -/
def freshReply (f : TxFrame) : Bool := isReply f.body && !f.lapsed

/-- The list with f applied to the first element that satisfies the test. -/
def updateFirst (t : TxFrame → Bool) (f : TxFrame → TxFrame) (q : List TxFrame) : List TxFrame :=
  match q with
  | [] => []
  | x :: xs => if t x then f x :: xs else x :: updateFirst t f xs

/-- The oldest reply's 500 ms have passed: it leaves, counted TX_DROPPED, or, in transmission, stays until its transmission
ends (R21). -/
def expireReply (p : Part) : Part :=
  match p.port.queue.find? freshReply with
  | none => p
  | some f =>
    if f.sending then withQueue (updateFirst freshReply (fun g => { g with lapsed := true }) p.port.queue) p
    else count .txDropped (withQueue (p.port.queue.eraseP freshReply) p)

/-! ## The dwell log -/

/-- An entry joins the log at the newest end; at a full log the overflow count rises, LOG_OVERFLOW is raised and the log mode
decides which entry is lost (R183, R184). -/
def addEntry (e : LogEntry) (p : Part) : Part :=
  if p.log.entries.length < 64 then { p with log := { p.log with entries := p.log.entries ++ [e] } }
  else
    raise .logOverflow
      { p with
        log :=
          { entries := if logOverwrites (cfg p) then p.log.entries.drop 1 ++ [e] else p.log.entries,
            overflow := saturate16 (p.log.overflow + 1) } }

/-- The chatter mark is cleared, by the entry that took it or by an accepted index (R29). -/
def clearChatter (p : Part) : Part := { p with tracker := { p.tracker with chatter := false } }

/-! ## The line-stop flag -/

/-- The line-stop flag is set; set from clear under freeze-on-stop it freezes counters that are not frozen (R159, R179). -/
def setLineStop (p : Part) : Part :=
  let stops := !p.control.lineStop && freezeOnStop (cfg p) && p.monitor.frozen.isNone
  { p with
    control := { p.control with lineStop := true },
    monitor := if stops then { p.monitor with frozen := some .stop } else p.monitor }

/-- The line-stop flag is cleared; cleared from set it ends a freeze of cause STOP (R159, R179). -/
def clearLineStop (p : Part) : Part :=
  let thaws := p.control.lineStop && p.monitor.frozen == some .stop
  { p with
    control := { p.control with lineStop := false },
    monitor := if thaws then { p.monitor with frozen := none } else p.monitor }

end Sys2Proof.Machine
end

