-- ==== Sys2Proof/Machine/DoseArithmetic.lean ====
section
/-! DEFINITION. The dose arithmetic from prior to verdict (R64, R133 to R138, R144 to R147). -/

namespace Sys2Proof.Machine

/-- The lane's contribution entry for stage j (R52). -/
def contributionOf (e : LaneEntry) (j : Nat) : Option Contribution := e.contributions.find? (fun x => x.stage == j)

/-- The upstream stages of this node, 1 to k−1 (R64). -/
def upstreamStages (c : Configuration) : List Nat := (List.range (c.stage - 1)).map (· + 1)

/-- The dose that stands for stage j: its nominal share when it is voided or missing, else its entry's dose (R64). -/
def standsFor (c : Configuration) (r : RowRecord) (e : LaneEntry) (j : Nat) : Nat :=
  if r.upstreamVoided.contains j then share c j
  else match contributionOf e j with
    | some x => x.dose
    | none => share c j

/-- The lane's voided flag: some upstream stage is in the upstream-voided set (R64). -/
def laneVoided (c : Configuration) (r : RowRecord) : Bool :=
  (upstreamStages c).any (fun j => r.upstreamVoided.contains j)

/-- The lane's assumed flag: some upstream stage is neither voided nor holds an entry (R64). -/
def laneAssumed (c : Configuration) (r : RowRecord) (e : LaneEntry) : Bool :=
  (upstreamStages c).any (fun j => !r.upstreamVoided.contains j && (contributionOf e j).isNone)

/-- The prior, saturating at 65535 RU (R133). -/
def prior (c : Configuration) (r : RowRecord) (e : LaneEntry) : Nat :=
  saturate16 ((upstreamStages c).map (standsFor c r e)).sum

/-- The planned cumulative dose S through this stage (R134). -/
def plannedDose (c : Configuration) : Nat :=
  if finalStage c then c.dtarget else saturate16 ((List.range c.stage).map (fun j => share c (j + 1))).sum

/-- The aim in RU (R135): natural subtraction stops at 0, as the max with 0 asks. -/
def aimOf (c : Configuration) (r : RowRecord) (e : LaneEntry) : Nat :=
  min (plannedDose c - prior c r e) (c.dmax - prior c r e)

/-- The contact weight w at pressure P, 0 to 256 (R137). -/
def contactWeight (c : Configuration) (pressure : Nat) : Nat :=
  if pressure < c.pmin then 0 else min 256 (256 * pressure / c.pref)

/-- The increment of one dwell sample at temperature T and contact weight w (R138): natural subtraction gives the excess 0 at or
below Tact. -/
def increment (c : Configuration) (temp weight : Nat) : Nat := (temp - c.tact) * weight / 256

/-- The accumulator with an increment added, saturating at 1,048,575 DU (R139). -/
def accumulate (acc inc : Nat) : Nat := min 1048575 (acc + inc)

/-- The own dose in RU: half a report unit rounds up, held to 65535 (R144). -/
def ownDose (acc : Nat) : Nat := saturate16 ((acc + 8) / 16)

/-- The cumulative dose (R145). -/
def cumulativeDose (c : Configuration) (r : RowRecord) (e : LaneEntry) (own : Nat) : Nat := saturate16 (prior c r e + own)

/-- The verdict of a lane whose plan was PRESS or NOT PRESSED, at cumulative dose C (R146); `doubtful` says that one of the four
conditions of R147 holds. -/
def doseVerdict (c : Configuration) (cumulative : Nat) (doubtful : Bool) : Verdict :=
  if finalStage c then
    if cumulative < c.dmin then .under
    else if c.dmax < cumulative then .over
    else if doubtful then .doubt
    else .sealed
  else if c.dmax < cumulative then .over
  else .pending

end Sys2Proof.Machine
end

