-- ==== Sys2Proof/Machine/Operands.lean ====
section
/-! DEFINITION. What the payload bytes of a received frame mean (R8 to R11): each kind's payload, or none when it is malformed. -/

namespace Sys2Proof.Machine

/-- A ROW VERDICT: the row tag and the code of each lane 0 to m−1 (R8). -/
structure RowVerdict where
  tag : Tag
  codes : List Nat
  deriving DecidableEq, Repr

/-- The four-bit code of lane c: two lanes to a byte, the even lane in the high half (R8). -/
def laneCode (payload : List Byte) (c : Nat) : Nat :=
  if c % 2 = 0 then byteAt payload (3 + c / 2) / 16 else byteAt payload (3 + c / 2) % 16

/-- A ROW VERDICT whose lane count is 0 or above 8, or whose length disagrees with it, is malformed (R8). -/
def readRowVerdict (payload : List Byte) : Option RowVerdict :=
  let m := byteAt payload 2
  if 1 ≤ m ∧ m ≤ 8 ∧ payload.length = 3 + (m + 1) / 2 then
    some { tag := tagAt payload 0, codes := (List.range m).map (laneCode payload) }
  else none

/-- One lane of a received SEAL REPORT: its dose and its verdict and reason, none when a code is out of range (R9, R60). -/
structure ReceivedLane where
  dose : Nat
  result : Option (Verdict × Reason)
  deriving DecidableEq, Repr

/-- A received SEAL REPORT: what the verdict merger examines of it (R59, R60). -/
structure ReceivedReport where
  tag : Tag
  stage : Nat
  lanes : List ReceivedLane
  deriving DecidableEq, Repr

/-- Verdict and reason of a result byte: the codes of its two halves (R9). -/
def readResult (b : Nat) : Option (Verdict × Reason) :=
  match verdictOf (b / 16), reasonOf (b % 16) with
  | some v, some r => some (v, r)
  | _, _ => none

/-- Lane c of a received SEAL REPORT (R9). -/
def readReportLane (payload : List Byte) (c : Nat) : ReceivedLane :=
  { dose := fieldAt payload (6 + 3 * c), result := readResult (byteAt payload (8 + 3 * c)) }

/-- A SEAL REPORT whose length is below 9, above 30 or no whole number of lane groups is malformed (R9). -/
def readSealReport (payload : List Byte) : Option ReceivedReport :=
  if 9 ≤ payload.length ∧ payload.length ≤ 30 ∧ (payload.length - 6) % 3 = 0 then
    some
      { tag := tagAt payload 0, stage := byteAt payload 2 / 64 + 1,
        lanes := (List.range ((payload.length - 6) / 3)).map (readReportLane payload) }
  else none

/-- A received VOID NOTICE; its cause changes nothing (R10, R61). -/
structure ReceivedVoid where
  first : Tag
  last : Tag
  stage : Nat
  deriving DecidableEq, Repr

/-- A VOID NOTICE of another length, or with a stage or a cause outside the values listed, is malformed (R10). -/
def readVoidNotice (payload : List Byte) : Option ReceivedVoid :=
  if payload.length = 6 ∧ 1 ≤ byteAt payload 4 ∧ byteAt payload 4 ≤ 4 ∧ 1 ≤ byteAt payload 5 ∧ byteAt payload 5 ≤ 3 then
    some { first := tagAt payload 0, last := tagAt payload 2, stage := byteAt payload 4 }
  else none

/-- A received DRAW NOTICE (R10). -/
structure ReceivedDraw where
  feed : Nat
  cls : DrawClass
  demand : Nat
  deriving DecidableEq, Repr

/-- A DRAW NOTICE of another length is malformed; every value of its feed and class bits is listed, and the bits below them are
not examined (R10; DESIGN CHOICE, unsafe, log 24). -/
def readDrawNotice (payload : List Byte) : Option ReceivedDraw :=
  if payload.length = 3 then
    some
      { feed := byteAt payload 0 / 64, cls := if byteAt payload 0 / 32 % 2 = 0 then .a else .b,
        demand := fieldAt payload 1 }
  else none

/-- A LINE STATE: true for RUN, false for STOP; another length, state or cause is malformed (R10). -/
def readLineState (payload : List Byte) : Option Bool :=
  if payload.length = 2 ∧ 1 ≤ byteAt payload 0 ∧ byteAt payload 0 ≤ 2 ∧ 1 ≤ byteAt payload 1 ∧ byteAt payload 1 ≤ 3 then
    some (byteAt payload 0 == 2)
  else none

/-- The controls that SET COUNTER's arguments name, clamped (R11, R173): the counter's index and its controls, with the edge
memory false. -/
def readControl (args : List Byte) : Nat × Control :=
  (min 5 (byteAt args 0),
    { select := min 28 (byteAt args 1), mask := args.getD 2 0, threshold := fieldAt args 3,
      invert := (args.getD 5 0).getLsbD 2, edge := (args.getD 5 0).getLsbD 1, enable := (args.getD 5 0).getLsbD 0,
      memory := false })

/-- The controls as SET COUNTER's arguments and reply lay them out (R11, R12). -/
def controlBytes (index : Nat) (t : Control) : List Byte :=
  [byteOf index, byteOf t.select, t.mask] ++ bytes16 t.threshold ++
    [byteOf (bitOf t.invert * 4 + bitOf t.edge * 2 + bitOf t.enable)]

end Sys2Proof.Machine
end

