-- ==== Sys2Proof/Machine/Merger.lean ====
section
/-! DEFINITION. The verdict merger: statements, reports and notices applied to row records, and the plan freeze (R51 to R72). -/

namespace Sys2Proof.Machine

/-! ## Records -/

/-- A lane entry as created (R35). -/
def freshLane : LaneEntry :=
  { formed := none, load := none, card := none, contributions := [], plan := .notSet, planReason := .none, aim := 0,
    ownDose := 0, verdict := .pending, reason := .none, assumed := false, voided := false, sensor := false, drift := false,
    noContact := false, forced := false }

/-- A record as created for a tag (R35). -/
def freshRecord (c : Configuration) (t : Tag) : RowRecord :=
  { tag := t, frozen := false, concluded := false, upstreamVoided := [], lanes := List.replicate c.lanes freshLane }

/-- The travel queue with the record of a tag changed. -/
def updateRecord (t : Tag) (f : RowRecord → RowRecord) (rs : List RowRecord) : List RowRecord :=
  rs.map (fun r => if r.tag = t then f r else r)

/-- The part with another travel queue. -/
def withRecords (rs : List RowRecord) (p : Part) : Part := { p with tracker := { p.tracker with records := rs } }

/-- The head record (R34). -/
def headRecord (p : Part) : Option RowRecord := p.tracker.records.head?

/-- The part with the head record changed. -/
def updateHead (f : RowRecord → RowRecord) (p : Part) : Part :=
  withRecords
    (match p.tracker.records with
      | [] => []
      | r :: rs => f r :: rs) p

/-- The head's plan is frozen (R55). -/
def headFrozen (p : Part) : Bool :=
  match headRecord p with
  | some r => r.frozen
  | none => false

/-! ## The window decode -/

/-- What the window decode makes of a row tag (R55). -/
inductive Decoded where
  | absent
  | applied
  | late
  | beyond
  deriving DecidableEq, Repr

/-- The window decode of a row tag against the H in force (R55). -/
def decodeTag (p : Part) (t : Tag) : Decoded :=
  match p.tracker.h with
  | none => .absent
  | some h =>
    if tagDiff h t < 0 then .late
    else if 47 < tagDiff h t then .beyond
    else if t = h ∧ headFrozen p then .late
    else .applied

/-- A statement about a tag, filed in its record, or dropped as the decode says, counted once (R55). -/
def fileStatement (t : Tag) (apply : Part → Part) (p : Part) : Part :=
  match decodeTag p t with
  | .absent => p
  | .applied => apply p
  | .late => count .frameLate p
  | .beyond => count .frameBeyond p

/-! ## ROW VERDICT -/

/-- The formed value of a code, none for no statement and for an undefined code (R57). -/
def formedOf (n : Nat) : Option Formed :=
  match n with
  | 1 => some .good
  | 2 => some .bad
  | _ => none

/-- The load value of a code (R57). -/
def loadOf (n : Nat) : Option Load :=
  match n with
  | 1 => some .good
  | 2 => some .short
  | 3 => some .over
  | 4 => some .empty
  | _ => none

/-- The card value of a code (R57). -/
def cardOf (n : Nat) : Option Card :=
  match n with
  | 1 => some .placed
  | 2 => some .missing
  | 3 => some .skewed
  | _ => none

/-- The role fills a statement field (R57). -/
def fillsField (role : Role) : Bool :=
  match role with
  | .form => true
  | .load => true
  | .card => true
  | _ => false

/-- The code is a defined statement of the role (R57, R58). -/
def definedCode (role : Role) (n : Nat) : Bool :=
  match role with
  | .form => (formedOf n).isSome
  | .load => (loadOf n).isSome
  | .card => (cardOf n).isSome
  | _ => false

/-- The role's field of the lane holds a statement (R58). -/
def stated (role : Role) (e : LaneEntry) : Bool :=
  match role with
  | .form => e.formed.isSome
  | .load => e.load.isSome
  | .card => e.card.isSome
  | _ => false

/-- The lane with a code applied to the field of the role: a defined code replaces the value, any other leaves it (R58). -/
def applyCode (role : Role) (n : Nat) (e : LaneEntry) : LaneEntry :=
  match role with
  | .form => { e with formed := (formedOf n).or e.formed }
  | .load => { e with load := (loadOf n).or e.load }
  | .card => { e with card := (cardOf n).or e.card }
  | _ => e

/-- The lanes with the codes of a ROW VERDICT applied, lane by lane; lanes past the shorter list keep their fields (R53, R58). -/
def applyCodes (role : Role) (codes : List Nat) (lanes : List LaneEntry) : List LaneEntry :=
  match codes, lanes with
  | n :: ns, e :: es => applyCode role n e :: applyCodes role ns es
  | _, es => es

/-- The lanes whose held statement a ROW VERDICT restates: REVISED is counted once for each (R58). -/
def revisedLanes (role : Role) (codes : List Nat) (lanes : List LaneEntry) : Nat :=
  (codes.zip lanes).countP (fun x => definedCode role x.1 && stated role x.2)

/-- The lanes whose code is undefined: ODD_CODE is counted once for each (R58). -/
def oddLanes (role : Role) (codes : List Nat) (lanes : List LaneEntry) : Nat :=
  (codes.zip lanes).countP (fun x => !(x.1 == 0) && !definedCode role x.1)

/-- The record of a tag, if the queue holds one. -/
def recordOf (p : Part) (t : Tag) : Option RowRecord := p.tracker.records.find? (fun r => r.tag == t)

/-- A ROW VERDICT applied to the record it names (R58). -/
def applyVerdict (role : Role) (v : RowVerdict) (p : Part) : Part :=
  match recordOf p v.tag with
  | none => p
  | some r =>
    countTimes .oddCode (oddLanes role v.codes r.lanes)
      (countTimes .revised (revisedLanes role v.codes r.lanes)
        (withRecords
          (updateRecord v.tag (fun r => { r with lanes := applyCodes role v.codes r.lanes }) p.tracker.records) p))

/-- A ROW VERDICT reaches the verdict merger: malformed, it is counted ODD_CODE, whatever its role (R25; DESIGN CHOICE, unsafe, for
a role that fills no field, where R57 would pass the frame over uncounted: log 40); well formed, it is passed over from such a role,
and else decoded and applied (R8, R57). -/
def takeRowVerdict (h : Header) (payload : List Byte) (p : Part) : Part :=
  match readRowVerdict payload with
  | none => count .oddCode p
  | some v => if fillsField h.role then fileStatement v.tag (applyVerdict h.role v) p else p

/-! ## Upstream SEAL REPORT -/

/-- The contributions with the entry for a stage replaced or added at its place in stage order (R60). -/
def putContribution (x : Contribution) (xs : List Contribution) : List Contribution :=
  match xs with
  | [] => [x]
  | y :: ys =>
    if x.stage < y.stage then x :: y :: ys
    else if x.stage = y.stage then x :: ys
    else y :: putContribution x ys

/-- A lane with a report lane of stage j applied: an undefined result leaves it (R60). -/
def applyReportLane (j : Nat) (x : ReceivedLane) (e : LaneEntry) : LaneEntry :=
  match x.result with
  | none => e
  | some (v, r) =>
    { e with contributions := putContribution { stage := j, dose := x.dose, verdict := v, reason := r } e.contributions }

/-- The lanes with a report applied, lane by lane (R53, R60). -/
def applyReportLanes (j : Nat) (xs : List ReceivedLane) (lanes : List LaneEntry) : List LaneEntry :=
  match xs, lanes with
  | x :: xs, e :: es => applyReportLane j x e :: applyReportLanes j xs es
  | _, es => es

/-- The lanes whose entry for stage j a report replaces: REVISED is counted once for each (R60). -/
def revisedReportLanes (j : Nat) (xs : List ReceivedLane) (lanes : List LaneEntry) : Nat :=
  (xs.zip lanes).countP (fun x => x.1.result.isSome && (contributionOf x.2 j).isSome)

/-- The lanes whose result is out of range: ODD_CODE is counted once for each (R60). -/
def oddReportLanes (xs : List ReceivedLane) (lanes : List LaneEntry) : Nat :=
  (xs.zip lanes).countP (fun x => x.1.result.isNone)

/-- An upstream SEAL REPORT applied to the record it names; its stage leaves the upstream-voided set (R60). -/
def applyReport (x : ReceivedReport) (p : Part) : Part :=
  match recordOf p x.tag with
  | none => p
  | some r =>
    countTimes .oddCode (oddReportLanes x.lanes r.lanes)
      (countTimes .revised (revisedReportLanes x.stage x.lanes r.lanes)
        (withRecords
          (updateRecord x.tag
            (fun r =>
              { r with
                lanes := applyReportLanes x.stage x.lanes r.lanes,
                upstreamVoided := r.upstreamVoided.filter (fun j => !(j == x.stage)) })
            p.tracker.records) p))

/-- A report or notice of stage j meets own stage k: upstream it goes on, at own stage it raises STAGE_CONFLICT, downstream it is
passed over (R59, R61); while no configuration is in force no own stage is held (R72). -/
def byStage (j : Nat) (upstream : Part → Part) (p : Part) : Part :=
  match p.loader.config with
  | none => p
  | some c =>
    if j < c.stage then upstream p
    else if j = c.stage then raise .stageConflict p
    else p

/-- A SEAL REPORT reaches the line port's dispatch (R9, R25, R59): from another role, or malformed, it is counted ODD_CODE. -/
def takeSealReport (h : Header) (payload : List Byte) (p : Part) : Part :=
  if h.role = .sealer then
    match readSealReport payload with
    | none => count .oddCode p
    | some x => byStage x.stage (fileStatement x.tag (applyReport x)) p
  else count .oddCode p

/-! ## VOID NOTICE from upstream -/

/-- A stage joins the upstream-voided set, kept in rising order (R62). -/
def insertStage (j : Nat) (s : List Nat) : List Nat :=
  match s with
  | [] => [j]
  | i :: is => if j < i then j :: i :: is else if j = i then i :: is else i :: insertStage j is

/-- A record with stage j voided (R62). -/
def voidRecord (j : Nat) (r : RowRecord) : RowRecord :=
  { r with
    upstreamVoided := insertStage j r.upstreamVoided,
    lanes := r.lanes.map (fun e => { e with contributions := e.contributions.filter (fun x => !(x.stage == j)) }) }

/-- The record lies in the applicable span: from H, or from H+1 while the head's plan is frozen, to H+47 (R62). -/
def inSpan (p : Part) (h : Tag) (r : RowRecord) : Bool := inWindow h r.tag && !(decide (r.tag = h) && headFrozen p)

/-- A VOID NOTICE reaches a record (R62). -/
def voidReaches (p : Part) (h : Tag) (v : ReceivedVoid) (r : RowRecord) : Bool :=
  inSpan p h r && tagBetween v.first v.last r.tag

/-- An upstream VOID NOTICE applied (R62). A notice that reaches no record is beyond when the difference from H to its first tag is
above 47 (DESIGN CHOICE, unsafe: a first tag of difference −32768 to −32722 is below the window by the last sentence of R32, and
above H+47 by its table; it is counted late; log 41). -/
def applyVoid (v : ReceivedVoid) (p : Part) : Part :=
  match p.tracker.h with
  | none => p
  | some h =>
    if tagDiff v.first v.last < 0 then count .oddCode p
    else if p.tracker.records.any (voidReaches p h v) then
      withRecords (p.tracker.records.map (fun r => if voidReaches p h v r then voidRecord v.stage r else r)) p
    else if 47 < tagDiff h v.first then count .frameBeyond p
    else count .frameLate p

/-- A VOID NOTICE reaches the line port's dispatch (R10, R25, R61). -/
def takeVoidNotice (h : Header) (payload : List Byte) (p : Part) : Part :=
  if h.role = .sealer then
    match readVoidNotice payload with
    | none => count .oddCode p
    | some v => byStage v.stage (applyVoid v) p
  else count .oddCode p

/-! ## The plan freeze -/

/-- Some contribution entry of the lane has the verdict (R65 rows 3 and 4). -/
def hasUpstream (e : LaneEntry) (v : Verdict) : Bool := e.contributions.any (fun x => x.verdict == v)

/-- The hold-off reason of a lane by rows 1 to 9, in order, or none (R65). `stationHeld` is row 1, `unfit` row 2. -/
def holdOffReason (c : Configuration) (stationHeld unfit : Bool) (e : LaneEntry) : Option Reason :=
  if stationHeld then some .station
  else if unfit then some .noHeat
  else if hasUpstream e .skipped then some .upstream
  else if hasUpstream e .over then some .overdose
  else if e.card = some .missing ∨ e.card = some .skewed then some .noCard
  else if e.card = none ∧ cardUnknownPress c = false then some .unknown
  else if e.formed = some .bad then some .badForm
  else if e.load = some .over then some .crush
  else if e.load = none ∧ loadUnknownHold c = true then some .unknown
  else none

/-- The mode holds every lane off (R65 row 1). -/
def modeHoldsOff (m : Mode) : Bool :=
  match m with
  | .hold => true
  | .dry => true
  | .fault => true
  | _ => false

/-- A lane with its plan, reason, aim and the flags of its prior fixed (R64, R65, R68). -/
def planLane (c : Configuration) (r : RowRecord) (stationHeld unfit : Bool) (e : LaneEntry) : LaneEntry :=
  let e := { e with assumed := laneAssumed c r e, voided := laneVoided c r }
  match holdOffReason c stationHeld unfit e with
  | some reason => { e with plan := .holdOff, planReason := reason, aim := 0 }
  | none =>
    if aimOf c r e = 0 then { e with plan := .notPressed, planReason := .notNeeded, aim := 0 }
    else { e with plan := .press, planReason := .none, aim := aimOf c r e }

/-- The head record with its plan frozen (R63). -/
def freezeRecord (p : Part) (r : RowRecord) : RowRecord :=
  { r with
    frozen := true,
    lanes :=
      mapIndexed (fun i e => planLane (cfg p) r (modeHoldsOff p.control.mode) (laneUnfit p i) e) r.lanes }

/-- The plan freeze of the head record (R63). -/
def freezeHead (p : Part) : Part := updateHead (freezeRecord p) p

/-- The lane is PRESS in the record. -/
def presses (e : LaneEntry) : Bool := e.plan == .press

end Sys2Proof.Machine
end

