-- ==== Sys2Proof/Machine/Conclusion.lean ====
section
/-! DEFINITION. The conclusion of a row: record, SEAL REPORT, dwell log entry, monitor events and the run of UNDER rows
(R37, R144 to R153). -/

namespace Sys2Proof.Machine

/-- The point at which a row concludes (R148). `retired` is an accepted index with the platen OPEN or SETTLE, with the reason the
mode gives (R37, R146). -/
inductive ConclusionPoint where
  | settleEnd
  | closeTimeout
  | arrival
  | retired (reason : Reason)
  | forcedIndex
  deriving DecidableEq, Repr

/-- The row was concluded by a forced index. -/
def forcedPoint (pt : ConclusionPoint) : Bool :=
  match pt with
  | .forcedIndex => true
  | _ => false

/-- The reason of a row concluded without a freeze: the retiring index's, and STATION at a forced index, as R37 has it, in RUN too,
for which the table of R146 gives MISSED (DESIGN CHOICE, unsafe, log 46). -/
def unfrozenReason (pt : ConclusionPoint) : Reason :=
  match pt with
  | .retired reason => reason
  | _ => .station

/-- The row's lanes follow their frozen plans: the plan is frozen and the point is no retirement from OPEN or SETTLE (R37, R146). -/
def judgedByPlan (pt : ConclusionPoint) (r : RowRecord) : Bool :=
  match pt with
  | .retired _ => false
  | _ => r.frozen

/-- The close was commanded for this row in a row cycle (R37, R148). -/
def closeWasCommanded (pt : ConclusionPoint) (p : Part) (r : RowRecord) : Bool :=
  judgedByPlan pt r && p.dose.closeCommanded && p.sequencer.dry.isNone

/-- One of the four conditions of R147. -/
def doubtful (e : LaneEntry) : Bool := e.assumed || e.voided || e.sensor || e.drift

/-- A lane of a frozen row with its results written (R144, R146, R147). -/
def concludeFrozenLane (c : Configuration) (r : RowRecord) (forced : Bool) (l : LaneDose) (e : LaneEntry) : LaneEntry :=
  match e.plan with
  | .press =>
    let own := ownDose l.acc
    let e :=
      { e with
        ownDose := own, reason := .none, sensor := l.sensorEnd, drift := l.drift, noContact := !l.sampled, forced := forced }
    { e with verdict := doseVerdict c (cumulativeDose c r e own) (doubtful e) }
  | .notPressed =>
    { e with ownDose := 0, reason := .notNeeded, verdict := doseVerdict c (cumulativeDose c r e 0) (doubtful e) }
  | _ => { e with ownDose := 0, verdict := .skipped, reason := e.planReason }

/-- A lane of a row concluded without a freeze (R37, R146, R147). -/
def skipLane (reason : Reason) (e : LaneEntry) : LaneEntry :=
  { e with ownDose := 0, verdict := .skipped, reason := reason }

/-- The dose integrator's state of a lane. -/
def laneDose (p : Part) (lane : Nat) : LaneDose := p.dose.lanes.getD lane LaneDose.reset

/-- The record with its results written and concluded (R149 step 1). -/
def concludeRecord (pt : ConclusionPoint) (p : Part) (r : RowRecord) : RowRecord :=
  { r with
    concluded := true,
    lanes :=
      if judgedByPlan pt r then
        mapIndexed (fun i e => concludeFrozenLane (cfg p) r (forcedPoint pt) (laneDose p i) e) r.lanes
      else r.lanes.map (skipLane (unfrozenReason pt)) }

/-- The lane of a SEAL REPORT from the lane of a concluded record (R150). -/
def reportLane (e : LaneEntry) : ReportLane :=
  { dose := e.ownDose, verdict := e.verdict, reason := e.reason, assumed := e.assumed, voided := e.voided, sensor := e.sensor }

/-- The SEAL REPORT of a concluded record (R148, R150). -/
def sealReportOf (pt : ConclusionPoint) (p : Part) (r : RowRecord) : SealReport :=
  { tag := r.tag, stage := (cfg p).stage, final := finalStage (cfg p),
    noContact := closeWasCommanded pt p r && p.dose.samples == 0,
    forced := forcedPoint pt,
    drift := closeWasCommanded pt p r && p.dose.drift,
    lanes := r.lanes.map reportLane }

/-- The lift sample as the dwell log keeps it: in units of 2 samples, 255 for never commanded (R151). A lane whose channel fails in its
lag keeps the sample it was commanded at, though R151 names such lanes among those at 255 (DESIGN CHOICE, unsafe, log 47). -/
def logLift (l : LaneDose) : Nat :=
  match l.lift with
  | some s => s / 2
  | none => 255

/-- The lane of a dwell log entry from the dose integrator's lane; lanes not in use show dose 0 and 255 (R151). -/
def logLane (p : Part) (lane : Nat) : LogLane :=
  if lane < (cfg p).lanes then { dose := ownDose (laneDose p lane).acc, lift := logLift (laneDose p lane) }
  else { dose := 0, lift := 255 }

/-- The dwell log entry of the cycle in progress (R151, R152). -/
def logEntryOf (tag : Tag) (dry aborted forced : Bool) (p : Part) : LogEntry :=
  { tag := tag, samples := p.dose.samples, lost := p.dose.lost, scale := p.dose.scaleAtStart, dry := dry, aborted := aborted,
    forced := forced, chatter := p.tracker.chatter, drift := p.dose.drift, lanes := (List.range 8).map (logLane p) }

/-- The cycle's entry is built, takes the chatter mark and is handed to the log (R29, R149 step 3). -/
def logCycle (tag : Tag) (dry aborted forced : Bool) (p : Part) : Part :=
  addEntry (logEntryOf tag dry aborted forced p) (clearChatter p)

/-- The lanes of a record that satisfy a test, each with the amount given. -/
def lanesWhere (t : LaneEntry → Bool) (amount : LaneEntry → Nat) (lanes : List LaneEntry) : List (Nat × Nat) :=
  (mapIndexed (fun i e => (i, e)) lanes).filterMap (fun x => if t x.2 then some (x.1, amount x.2) else none)

/-- The lanes with a verdict, each of amount 1. -/
def lanesOf (v : Verdict) (lanes : List LaneEntry) : List (Nat × Nat) :=
  lanesWhere (fun e => e.verdict == v) (fun _ => 1) lanes

/-- The monitor events of a concluded row (R149 step 4, R174). -/
def countRow (judged : Bool) (lanes : List LaneEntry) (p : Part) : Part :=
  countLanes .laneDose (lanesWhere (fun _ => true) LaneEntry.ownDose lanes)
    (countLanes .verdictDoubt (lanesOf .doubt lanes)
      (countLanes .verdictOver (lanesOf .over lanes)
        (countLanes .verdictUnder (lanesOf .under lanes)
          (countLanes .verdictSealed (lanesOf .sealed lanes)
            (countLanes .laneSkipped (lanesOf .skipped lanes)
              (countLanes .lanePressed (if judged then lanesWhere presses (fun _ => 1) lanes else []) p))))))

/-- The run of UNDER rows at a final stage (R149 step 5, R153). -/
def countUnder (lanes : List LaneEntry) (p : Part) : Part :=
  if finalStage (cfg p) then
    let n := if lanes.any (fun e => e.verdict == .under) then min 3 (p.dose.underCount + 1) else 0
    raiseIf (decide (n = 3)) .underRun { p with dose := { p.dose with underCount := n } }
  else p

/-- The head row concludes at a point (R149): record, report, log entry, monitor, run of UNDER rows, in this order. `r` is the
head record before it. -/
def concludeWith (pt : ConclusionPoint) (r : RowRecord) (p : Part) : Part :=
  let done := concludeRecord pt p r
  let logged := closeWasCommanded pt p r
  let reported := send (.sealReport (sealReportOf pt p done)) (updateHead (fun _ => done) p)
  let entered := if logged then logCycle r.tag false p.dose.cut (forcedPoint pt) reported else reported
  countUnder done.lanes (countRow (judgedByPlan pt r) done.lanes entered)

/-- The head row concludes unless it is concluded already or there is none (R148). -/
def concludeHead (pt : ConclusionPoint) (p : Part) : Part :=
  match headRecord p with
  | none => p
  | some r => if r.concluded then p else concludeWith pt r p

end Sys2Proof.Machine
end

