-- ==== Sys2Proof/Machine/Tracking.lean ====
section
/-! DEFINITION. The index tracker's queue: retiring and advancing, alignment, skew, realignment and the flush (R33 to R49). -/

namespace Sys2Proof.Machine

/-! ## The travel queue -/

/-- The 48 tags of the window of H, head first (R34). -/
def windowTags (h : Tag) : List Tag := (List.range 48).map (fun m => h + BitVec.ofNat 16 m)

/-- A new travel queue for H: 48 records as created (R35, R41). -/
def freshQueue (c : Configuration) (h : Tag) : List RowRecord := (windowTags h).map (freshRecord c)

/-- Steps 2 to 4 of an accepted index: the head leaves, H advances, a new record enters at the tail (R36). -/
def advanceQueue (h : Tag) (p : Part) : Part :=
  { p with
    tracker :=
      { p.tracker with
        h := some (h + 1),
        records := p.tracker.records.drop 1 ++ [freshRecord (cfg p) (h + 48)] } }

/-! ## Mode-free parts of alignment -/

/-- The implied head tag of a header (R33). -/
def impliedHead (c : Configuration) (hd : Header) : Tag :=
  hd.hereTag + BitVec.ofNat 16 hd.position.toNat - BitVec.ofNat 16 c.position

/-- H and the travel queue set at alignment, candidates cleared (R41 steps 1 to 3). -/
def alignAt (h : Tag) (p : Part) : Part :=
  { p with
    tracker :=
      { p.tracker with h := some h, records := freshQueue (cfg p) h, candidate := none, candidateCount := 0, skew := none } }

/-! ## Realignment -/

/-- A lane entry kept by a realignment: statements and contributions stay, result fields return to R35 (R44). -/
def keepLane (e : LaneEntry) : LaneEntry :=
  { freshLane with formed := e.formed, load := e.load, card := e.card, contributions := e.contributions }

/-- A record kept by a realignment (R44). -/
def keepRecord (r : RowRecord) : RowRecord :=
  { r with frozen := false, concluded := false, lanes := r.lanes.map keepLane }

/-- The record for a tag of the new window: kept from the old queue, or created (R44). -/
def realignedRecord (c : Configuration) (old : List RowRecord) (t : Tag) : RowRecord :=
  match old.find? (fun r => r.tag == t) with
  | some r => keepRecord r
  | none => freshRecord c t

/-- A realignment by d applied to H and the travel queue (R44), the candidate and the pending realignment cleared (R45). -/
def moveQueue (h : Tag) (d : Int) (p : Part) : Part :=
  { p with
    tracker :=
      { p.tracker with
        h := some (tagAdd h d),
        records := (windowTags (tagAdd h d)).map (realignedRecord (cfg p) p.tracker.records),
        skew := none, pendingRealign := none } }

/-- The VOID NOTICE of a realignment by d from H_old (R45). -/
def realignNotice (c : Configuration) (h : Tag) (r : Realignment) : FrameBody :=
  .voidNotice (tagMin r.hFirst (tagAdd r.hFirst r.d)) (tagMax h (tagAdd h r.d)) c.stage .realign

/-- A realignment applied: the queue moves, the notice is queued, REALIGNED is raised and REALIGN counted (R44, R45). -/
def applyRealignment (r : Realignment) (p : Part) : Part :=
  match p.tracker.h with
  | none => p
  | some h => count .realign (raise .realigned (send (realignNotice (cfg p) h r) (moveQueue h r.d p)))

/-- A decided realignment: applied at once with the platen OPEN or SETTLE, else held pending; a later one replaces the d of the
one held and keeps its H_first (R43). -/
def decideRealignment (r : Realignment) (p : Part) : Part :=
  let p := { p with tracker := { p.tracker with skew := none } }
  match p.sequencer.platen with
  | .opened => applyRealignment r p
  | .settle => applyRealignment r p
  | _ =>
    let kept := match p.tracker.pendingRealign with
      | some old => { r with hFirst := old.hFirst }
      | none => r
    { p with tracker := { p.tracker with pendingRealign := some kept } }

/-- The skew candidate after a frame with skew d not 0 (R42). -/
def nextSkew (s : Option Skew) (d : Int) (h : Tag) : Skew :=
  match s with
  | some old => if old.d = d then { old with count := old.count + 1 } else { d := d, count := 1, hFirst := h }
  | none => { d := d, count := 1, hFirst := h }

/-- Skew evidence against H (R42): d of 0 empties the candidate; else it is counted, and at N the realignment is decided (R43). -/
def takeSkew (h : Tag) (d : Int) (p : Part) : Part :=
  if d = 0 then { p with tracker := { p.tracker with skew := none } }
  else
    let s := nextSkew p.tracker.skew d h
    let p := count .skewEvidence { p with tracker := { p.tracker with skew := some s } }
    if (cfg p).evidence ≤ s.count then decideRealignment { d := s.d, hFirst := s.hFirst } p else p

/-- The alignment candidate and count after an implied head tag (R39). -/
def nextCandidate (t : Tracker) (i : Tag) : Tracker :=
  if t.candidate = some i then { t with candidateCount := t.candidateCount + 1 }
  else { t with candidate := some i, candidateCount := 1 }

/-! ## The flush -/

/-- The flush of RESYNC and CLEAR FAULT (R47 steps 1 to 3): the notice over the window when H is present, then no H, no record, no
candidate, no pending realignment and quiet count 0. -/
def flush (cause : VoidCause) (p : Part) : Part :=
  let p := match p.tracker.h with
    | some h => send (.voidNotice h (h + 47) (cfg p).stage cause) p
    | none => p
  { p with
    tracker :=
      { p.tracker with
        h := none, records := [], candidate := none, candidateCount := 0, skew := none, pendingRealign := none,
        quietCount := 0 } }

end Sys2Proof.Machine
end

