-- ==== Sys2Proof/Machine/Modes.lean ====
section
/-! DEFINITION. The station mode, the platen's open and close commands, the entry to OPEN, dry cycles and the entry to FAULT
(R112 to R131, R155 to R166). -/

namespace Sys2Proof.Machine

/-! ## The mode -/

/-- RUN or HOLD: the modes in which the idle clock runs (R95). -/
def idleMode (m : Mode) : Bool :=
  match m with
  | .run => true
  | .hold => true
  | _ => false

/-- What a change of mode does to the regulator: the idle flag clears when RUN and HOLD are left, the idle clock returns to 0 when
they are entered from SEEK or DRY (R95), and the listen count becomes 2 at the entry to SEEK from START or FAULT (R98). -/
def regulatorOnMode (before after : Mode) (g : Regulator) : Regulator :=
  { g with
    idle := g.idle && idleMode after,
    idleClock := if idleMode after && (before == .seek || before == .dry) then 0 else g.idleClock,
    listen := if after == .seek && (before == .start || before == .fault) then 2 else g.listen }

/-- What a change of mode does to the sequencer: the dry timer stops and a cycle held due is dropped when DRY is left (R128). -/
def sequencerOnMode (after : Mode) (q : Sequencer) : Sequencer :=
  if after = .dry then q else { q with dryTimer := none, dryDue := false }

/-- The mode changes (R155). -/
def setMode (m : Mode) (p : Part) : Part :=
  { p with
    control := { p.control with mode := m },
    regulator := regulatorOnMode p.control.mode m p.regulator,
    sequencer := sequencerOnMode m p.sequencer }

/-- RUN enters HOLD at an event that sets a flag; no other mode changes (R158). -/
def runToHold (p : Part) : Part := if p.control.mode = .run then setMode .hold p else p

/-- A line stop takes RUN to HOLD, and the quiet count starts again (R49, R158; DEDUCED for the moment, unsafe, log 43). -/
def stopToHold (p : Part) : Part :=
  if p.control.mode = .run then setMode .hold { p with tracker := { p.tracker with quietCount := 0 } } else p

/-- HOLD enters RUN at an event that leaves both flags clear (R158). -/
def holdToRun (p : Part) : Part :=
  if p.control.mode = .hold ∧ p.control.lineStop = false ∧ p.control.operatorHold = false then setMode .run p else p

/-- The stop input's activation: the flag is set, a LINE STATE STOP of cause INPUT is queued, RUN enters HOLD (R160). The flag, and with
it a freeze-on-stop, is taken before the notice joins, so that a TX_DROPPED at its joining is lost; R179 allows either order (DESIGN
CHOICE, unsafe, log 48). -/
def activateStop (p : Part) : Part := stopToHold (send (.lineStop .input) (setLineStop p))

/-- Alignment is achieved: RUN, or HOLD when a flag is set (R157). -/
def enterAligned (p : Part) : Part :=
  if p.control.lineStop || p.control.operatorHold then setMode .hold p else setMode .run p

/-- The start sequence is complete: SEEK is entered and the stop input examined (R156, R160, R200). -/
def completeStart (p : Part) : Part :=
  let p := setMode .seek { p with loader := { p.loader with phase := .complete, waitTimer := none } }
  if p.pins.stopInput then activateStop p else p

/-! ## Open and close commands -/

/-- Every lane's contact is ended (R119, R126, R143). -/
def endContacts (d : Dose) : Dose := { d with lanes := d.lanes.map (fun l => { l with contact := .ended }) }

/-- The open command: OPENING, the open timer started, every lane's contact ended, DWELL_LENGTH handed to the monitor (R119, R174).
The valves and lifts follow the platen state and the contacts (R112). -/
def openCommand (p : Part) : Part :=
  countAmount .dwellLength p.dose.samples
    { p with
      sequencer :=
        { p.sequencer with platen := .opening, closeTimer := none, openTimer := some (cfg p).openTimeout },
      dose := endContacts p.dose }

/-- A lane of the dose integrator at the close command (R136): in contact when it is pressed, with its aim in DU. -/
def closeLane (pressed : Bool) (aim : Nat) : LaneDose :=
  { aim := 16 * aim, acc := 0, contact := if pressed then .inContact else .ended, lift := none, sensorEnd := false,
    drift := false, sampled := false }

/-- The dose integrator set up at a close command (R136, R152): `pressed` and `aims` by lane. -/
def setUpDose (pressed : Nat → Bool) (aims : Nat → Nat) (scale : Nat) (d : Dose) : Dose :=
  { d with
    lanes := (List.range 8).map (fun i => closeLane (pressed i) (aims i)),
    closeCommanded := true, samples := 0, lost := 0, drift := false, scaleAtStart := scale, cut := false }

/-- The close command (R115): CLOSING, the close timer started, the dwell limit held, the cycle set up. -/
def closeCommand (limit : Nat) (pressed : Nat → Bool) (aims : Nat → Nat) (p : Part) : Part :=
  { p with
    sequencer :=
      { p.sequencer with
        platen := .closing, settleTimer := none, closeTimer := some (cfg p).closeTimeout, dwellLimit := limit },
    dose := setUpDose pressed aims p.regulator.scale p.dose }

/-- The dwell limit of a row cycle (R116): natural subtraction counts a window below 0 as 0. -/
def dwellLimitOf (c : Configuration) (lastPeriod : Option Nat) : Nat :=
  match lastPeriod with
  | none => c.nconf
  | some t => max c.nmin (min c.nconf ((t - c.motion - c.settle - c.release) / 2))

/-! ## Settle ends -/

/-- The platen goes back to OPEN from SETTLE, its settle timer stopped (R114, R115, R130). -/
def backToOpen (p : Part) : Part :=
  { p with sequencer := { p.sequencer with platen := .opened, settleTimer := none } }

/-- Lane `i` of the record is PRESS. -/
def pressOf (r : RowRecord) (i : Nat) : Bool :=
  match r.lanes[i]? with
  | some e => presses e
  | none => false

/-- The aim in RU of lane `i` of the record. -/
def aimAt (r : RowRecord) (i : Nat) : Nat :=
  match r.lanes[i]? with
  | some e => e.aim
  | none => 0

/-- A settle end that freezes a plan with no lane PRESS sets the cycle's state anew with every contact ended and no close
commanded (R132, R136). -/
def noClose (p : Part) : Part :=
  { p with
    dose :=
      { p.dose with
        lanes := (List.range 8).map (fun _ => closeLane false 0),
        closeCommanded := false, samples := 0, lost := 0, drift := false, cut := false } }

/-- The settle end of a row cycle (R115): the plan is frozen; with no lane PRESS the row concludes and the platen is OPEN, else the
close is commanded. -/
def settleRow (p : Part) : Part :=
  let p := freezeHead p
  match headRecord p with
  | none => backToOpen p
  | some r =>
    if r.lanes.any presses then closeCommand (dwellLimitOf (cfg p) p.tracker.lastPeriod) (pressOf r) (aimAt r) p
    else backToOpen (concludeHead .settleEnd (noClose p))

/-- The lane is pressed in a dry cycle: in use, neither OPEN nor OVERHEAT (R129). -/
def dryPresses (p : Part) (lane : Nat) : Bool := decide (lane < (cfg p).lanes) && !laneUnfit p lane

/-- The settle end of a dry cycle (R129 step 2): with no healthy lane the cycle ends, else the close is commanded. -/
def settleDry (p : Part) : Part :=
  if (lanesInUse (cfg p)).any (dryPresses p) then closeCommand (cfg p).nconf (dryPresses p) (fun _ => 0) p
  else
    let p := backToOpen p
    { p with sequencer := { p.sequencer with dry := none } }

/-- A dry cycle begins: SETTLE, the settle timer and the dry timer started; a settle delay of 0 ends at once (R114, R128, R129). -/
def beginDry (p : Part) : Part :=
  let p :=
    { p with
      sequencer :=
        { p.sequencer with
          platen := .settle, settleTimer := some (cfg p).settle, dryTimer := some (cfg p).dryPeriod, dryDue := false,
          dry := some { tag := p.tracker.h.getD 0, logged := false } } }
  if (cfg p).settle = 0 then settleDry p else p

/-- A dry cycle held due begins at the platen's entry to OPEN (R128). -/
def beginDue (p : Part) : Part :=
  if p.sequencer.dryDue = true ∧ p.control.mode = .dry ∧ p.sequencer.platen = .opened then beginDry p else p

/-- A row's settle begins: PERMIT drops with the state, the settle timer starts; a settle delay of 0 ends at once (R114). -/
def beginSettle (p : Part) : Part :=
  let p := { p with sequencer := { p.sequencer with platen := .settle, settleTimer := some (cfg p).settle } }
  if (cfg p).settle = 0 then settleRow p else p

/-! ## The entry to OPEN -/

/-- The dry cycle in progress ends: its entry is added unless it was before, or unless the close was not commanded (R129, R130).
In SETTLE no close has been commanded. -/
def endDry (aborted forced : Bool) (p : Part) : Part :=
  match p.sequencer.dry with
  | none => p
  | some cycle =>
    let closed := decide (p.sequencer.platen ≠ .settle)
    let p := { p with sequencer := { p.sequencer with dry := none } }
    if closed && !cycle.logged then logCycle cycle.tag true aborted forced p else p

/-- What the arrival at OPEN concludes: the row whose close was commanded (R122 step 1), or the entry of a dry cycle (R129). -/
def concludeArrival (p : Part) : Part :=
  if p.sequencer.dry.isSome then endDry false false p
  else if p.dose.closeCommanded && headFrozen p then concludeHead .arrival p
  else p

/-- The platen state is OPEN and the open timer stops (R122). -/
def platenOpened (p : Part) : Part :=
  { p with sequencer := { p.sequencer with platen := .opened, openTimer := none } }

/-- A deferred realignment is applied (R46, R122 step 2). -/
def applyPending (p : Part) : Part :=
  match p.tracker.pendingRealign with
  | some r => applyRealignment r p
  | none => p

/-- A start that waits for the platen is complete (R200). -/
def completeIfWaiting (p : Part) : Part := if p.loader.phase = .waiting then completeStart p else p

/-- The entry to OPEN (R122): the row concludes, a deferred realignment is applied (R46), a dry cycle held due begins (R128), and a
start that waits for it is complete (R200). -/
def enterOpen (p : Part) : Part := completeIfWaiting (beginDue (applyPending (concludeArrival (platenOpened p))))

/-- In OPENING the platen enters OPEN at the first moment the open sensor is active (R122, R131). While the part is held in its
reset state it stays where the reset put it (R194). -/
def arrive (p : Part) : Part :=
  if p.sequencer.platen = .opening ∧ p.pins.openSensor = true ∧ p.loader.phase ≠ .off then enterOpen p else p

/-! ## Cutting a dry cycle, entering FAULT -/

/-- The dry cycle is cut, by an abort or by the entry to FAULT (R130): SETTLE goes back to OPEN, CLOSING and DWELL take the open
command, and the entry is added with ABORTED where the close had been commanded. -/
def cutDry (forced : Bool) (p : Part) : Part :=
  match p.sequencer.platen with
  | .settle => backToOpen (endDry true forced p)
  | .closing => endDry true forced (openCommand p)
  | .dwell => endDry true forced (openCommand p)
  | .opening => endDry true forced p
  | .opened => { p with sequencer := { p.sequencer with dry := none } }

/-- A dry abort: the cycle is cut and the mode returns to HOLD (R130, R162). -/
def abortDry (forced : Bool) (p : Part) : Part :=
  setMode .hold (if p.sequencer.dry.isSome then cutDry forced p else p)

/-- Every heater output goes off; each stays off until the next period end (R100). -/
def heatersOff (g : Regulator) : Regulator :=
  { g with heaters := g.heaters.map (fun x => { x with on := false }) }

/-- After a tick only an output that is on has been on since it (R110). -/
def markSeen (g : Regulator) : Regulator := { g with heaters := g.heaters.map (fun x => { x with seen := x.on }) }

/-- After a tick an output counts as on since it only while it is on (R110). -/
def markHeaters (p : Part) : Part := { p with regulator := markSeen p.regulator }

/-- What the sequencer does at the entry to FAULT (R126, R130): a dry cycle is cut; a row cycle in CLOSING or DWELL takes it as an
open command and is marked cut. -/
def faultSequencer (p : Part) : Part :=
  if p.sequencer.dry.isSome then cutDry false p
  else
    match p.sequencer.platen with
    | .closing => openCommand { p with dose := { p.dose with cut := true } }
    | .dwell => openCommand { p with dose := { p.dose with cut := true } }
    | _ => p

/-- The fault record of a first fault (R165). -/
def firstFault (code : Nat) (t : Tracker) : FaultRecord := { code := code, h := t.h, count := t.indexCount, further := 0 }

/-- A fault handed to the mode controller (R164, R165): in FAULT the further-fault count rises; else FAULT is entered. -/
def takeFault (code : Nat) (p : Part) : Part :=
  if p.control.mode = .fault then
    { p with
      control := { p.control with fault := { p.control.fault with further := min 255 (p.control.fault.further + 1) } } }
  else
    let p := { p with control := { p.control with fault := firstFault code p.tracker } }
    let p := send (.lineStop .fault) (setMode .fault p)
    faultSequencer { p with regulator := heatersOff p.regulator }

end Sys2Proof.Machine
end

