-- ==== Sys2Proof/Machine/Sampling.lean ====
section
/-! DEFINITION. Temperature and pressure sampling and the reference check (R73 to R92). -/

namespace Sys2Proof.Machine

/-! ## One channel at one tick -/

/-- The conversions that the converter makes of a channel at a tick: 2^a of them, the first of the eight readings that the command
carries (R74; DESIGN CHOICE for the eight, safe, log 44). -/
def made {α : Type} (c : Configuration) (readings : List α) : List α := readings.take (2 ^ c.averaging)

/-- The tick is flagged for the channel: some conversion carried the open-circuit flag (R74). -/
def flagged (conv : List Conversion) : Bool := conv.any Conversion.broken

/-- The channel's average at the tick, rounded toward minus infinity (R75). -/
def averageOf (c : Configuration) (conv : List Conversion) : Int :=
  Int.fdiv (conv.map Conversion.reading).sum ((2 ^ c.averaging : Nat) : Int)

/-- T from an average and the offset of the physical channel (R76). -/
def temperatureOf (c : Configuration) (channel : Nat) (average : Int) : Nat :=
  (clampInt (average + c.offsets.getD channel 0) 0 1600).toNat

/-- The OVERHEAT state after a tick at which T is taken (R83). -/
def overheatAfter (c : Configuration) (before : Bool) (temp : Nat) : Bool :=
  if before then decide ((c.tlimit : Int) - 40 ≤ temp) else decide (c.tlimit ≤ temp)

/-- A channel at a tick at which its T is taken (R76, R81, R83). -/
def takeTemperature (c : Configuration) (channel : Nat) (conv : List Conversion) (x : Channel) : Channel :=
  let t := temperatureOf c channel (averageOf c conv)
  { temp := t, isOpen := false, recovery := 0, overheat := overheatAfter c x.overheat t }

/-- A channel in use at a tick outside a reference check (R76, R80, R81, R83). -/
def sampleChannel (c : Configuration) (channel : Nat) (conv : List Conversion) (x : Channel) : Channel :=
  if flagged conv then { x with isOpen := true, recovery := 0 }
  else if x.isOpen then
    if x.recovery + 1 < 16 then { x with recovery := x.recovery + 1 }
    else takeTemperature c channel conv x
  else takeTemperature c channel conv x

/-- A channel that serves no lane: its T is formed, and no OPEN or OVERHEAT state is kept (R77). A flagged tick leaves its T as R75
and R76 say of every channel (DESIGN CHOICE, safe, beside R77's discarding of its flags: no block reads this T; log 42). -/
def sampleUnused (c : Configuration) (channel : Nat) (conv : List Conversion) (x : Channel) : Channel :=
  if flagged conv then x else { x with temp := temperatureOf c channel (averageOf c conv) }

/-- The channels after a tick outside a reference check (R74, R77). -/
def sampleChannels (c : Configuration) (conv : Conversions) (xs : List Channel) : List Channel :=
  mapIndexed
    (fun i x =>
      if i < c.lanes then sampleChannel c i (made c (conv.thermo.getD i [])) x
      else sampleUnused c i (made c (conv.thermo.getD i [])) x) xs

/-- P from the raw pressure readings of a tick (R75, R78): the product is formed in full before the division. -/
def pressureOf (c : Configuration) (readings : List Nat) : Nat :=
  (clampInt (((readings.sum / 2 ^ c.averaging) * c.pspan / 4095 : Nat) + c.poffset) 0 1000).toNat

/-- The sampling unit at a sample tick: the nine channels (R74), or, in a reference check, the reference (R86). -/
def sampleUnit (c : Configuration) (conv : Conversions) (s : Sampling) : Sampling :=
  match s.check with
  | none =>
    { s with channels := sampleChannels c conv s.channels, pressure := pressureOf c (made c conv.pressure) }
  | some k =>
    { s with
      check :=
        some { ticks := min 10 (k.ticks + 1), sum := k.sum + conv.reference.sum, count := k.count + conv.reference.length } }

/-- Some channel in use satisfies the test (R82, R84). -/
def anyInUse (t : Channel → Bool) (p : Part) : Bool := (lanesInUse (cfg p)).any (fun i => t (laneChannel p i))

/-! ## The reference check -/

/-- The check's reference reading (R86). -/
def referenceReading (k : RefCheck) : Nat := k.sum / k.count

/-- The absolute difference from the factory value (R87). -/
def deviation (s : Sampling) (k : RefCheck) : Nat :=
  max (referenceReading k) s.factory - min (referenceReading k) s.factory

/-- The three results of a check (R87). -/
inductive CheckResult where
  | pass
  | drift
  | fault
  deriving DecidableEq, Repr

/-- The result of a deviation under a tolerance (R87). -/
def checkResult (tolerance dev : Nat) : CheckResult :=
  if dev ≤ tolerance then .pass else if dev ≤ 4 * tolerance then .drift else .fault

/-- The sampling unit after a check's result (R87). -/
def afterCheck (r : CheckResult) (s : Sampling) : Sampling :=
  match r with
  | .pass => { s with check := none, drift := false }
  | .drift => { s with check := none, drift := true }
  | .fault => { s with check := none, converterFault := true }

/-- A running check's ten ticks have been taken (R86). -/
def checkDue (p : Part) : Bool :=
  match p.sampling.check with
  | some k => decide (10 ≤ k.ticks)
  | none => false

/-- The start sequence goes on after its reference check (R91, R200): complete with the platen OPEN, else it waits for it. -/
def startAfterCheck (r : CheckResult) (p : Part) : Part :=
  if p.loader.phase = .checking then
    match r with
    | .fault => { p with loader := { p.loader with phase := .failed } }
    | _ =>
      if p.sequencer.platen = .opened then completeStart p
      else { p with loader := { p.loader with phase := .waiting, waitTimer := some (cfg p).openTimeout } }
  else p

/-- The pending check reply is answered DONE and cleared (R191). -/
def answerCheck (p : Part) : Part :=
  match p.responder.pendingCheck with
  | none => p
  | some requester =>
    send (.serviceReply requester 17 .done [])
      { p with responder := { p.responder with pendingCheck := none } }

/-- The end of a reference check (R86 to R91): the result, its alarm or fault, the start sequence, the pending reply. It falls at a
tick, so that the outputs which its fault puts out are not on in the 2 ms that follow (R100, R110). -/
def endCheck (p : Part) : Part :=
  match p.sampling.check with
  | none => p
  | some k =>
    let r := checkResult (cfg p).refTol (deviation p.sampling k)
    let p := { p with sampling := afterCheck r p.sampling }
    let p := raiseIf (r == .drift) .converterDrift p
    let p := startAfterCheck r p
    answerCheck (if r = .fault then markHeaters (takeFault 4 p) else p)

/-- A reference check is started: it begins at the next sample tick (R86, R90). -/
def startCheck (p : Part) : Part :=
  { p with sampling := { p.sampling with check := some { ticks := 0, sum := 0, count := 0 } } }

end Sys2Proof.Machine
end

