-- ==== Sys2Proof/Machine/Regulation.lean ====
section
/-! DEFINITION. Heater regulation, the draw table and the scale factor (R93 to R111). -/

namespace Sys2Proof.Machine

/-! ## Setpoint and duty -/

/-- The setpoint that the mode and the idle flag give (R94). -/
def setpointOf (c : Configuration) (m : Mode) (idle : Bool) : Nat :=
  match m with
  | .dry => c.spStby
  | .run => if idle then c.spStby else c.spRun
  | .hold => if idle then c.spStby else c.spRun
  | _ => c.spRun

/-- The setpoint handed on at a tick: the one in force, and SP_run in START and FAULT (R94). -/
def handedSetpoint (p : Part) : Nat :=
  match p.control.mode with
  | .start => (cfg p).spRun
  | .fault => (cfg p).spRun
  | _ => p.regulator.setpoint

/-- The computed duty at setpoint sp and temperature t (R96): the floor goes toward minus infinity. -/
def dutyOf (c : Configuration) (sp t : Nat) : Nat :=
  (clampInt ((c.bias : Int) + Int.fdiv (((sp : Int) - (t : Int)) * (c.gain : Int)) 64) 0 64).toNat

/-- The regulator gives the lane duty 0 without computing it (R97). -/
def forcedOff (p : Part) (lane : Nat) : Bool :=
  laneUnfit p lane || p.control.mode == .start || p.control.mode == .fault || decide (0 < p.regulator.listen)

/-- The unscaled duty of a lane at a period end (R96, R97); a lane not in use has none. -/
def unscaledDuty (p : Part) (sp lane : Nat) : Nat :=
  if lane < (cfg p).lanes then
    if forcedOff p lane then 0 else dutyOf (cfg p) sp (laneChannel p lane).temp
  else 0

/-- The own demand W of the unscaled duties (R101). -/
def ownDemand (c : Configuration) (duties : List Nat) : Nat :=
  ((lanesInUse c).map (fun i => duties.getD i 0 * c.wlane.getD (channelOf c i) 0 / 64)).sum

/-! ## The draw table -/

/-- The table with every entry's age raised, entries that reach age 3 removed (R104). -/
def ageDraws (ds : List Draw) : List Draw :=
  (ds.map (fun d => { d with age := d.age + 1 })).filter (fun d => decide (d.age < 3))

/-- The greatest age in the table. -/
def greatestAge (ds : List Draw) : Nat := ds.foldl (fun m d => max m d.age) 0

/-- A notice of own feed enters the table (R103): a known sender's entry is renewed, a new one is added, and in a full table it
takes the place of the entry of greatest age, the earliest by last notice, when that age is 1 or more. The table is kept in order of
last notice. -/
def enterDraw (d : Draw) (ds : List Draw) : List Draw :=
  if ds.any (fun x => x.station == d.station) then ds.filter (fun x => !(x.station == d.station)) ++ [d]
  else if ds.length < 16 then ds ++ [d]
  else if greatestAge ds = 0 then ds
  else ds.eraseP (fun x => x.age == greatestAge ds) ++ [d]

/-- A DRAW NOTICE reaches the regulator (R103): ignored without a configuration in force or from another feed. -/
def applyDraw (station : BitVec 5) (x : ReceivedDraw) (p : Part) : Part :=
  match p.loader.config with
  | none => p
  | some c =>
    if x.feed = c.feed then
      { p with
        regulator :=
          { p.regulator with
            draws := enterDraw { station := station, cls := x.cls, demand := x.demand, age := 0 } p.regulator.draws } }
    else p

/-- A DRAW NOTICE reaches the line port's dispatch (R10, R25). -/
def takeDrawNotice (h : Header) (payload : List Byte) (p : Part) : Part :=
  match readDrawNotice payload with
  | none => count .oddCode p
  | some x => applyDraw h.station x p

/-- The sum of the demands of one class in the table (R106). -/
def classDemand (k : DrawClass) (ds : List Draw) : Nat :=
  ((ds.filter (fun d => d.cls == k)).map Draw.demand).sum

/-- 256 when the total is within what is available, else its ratio in 256ths (R106, R107). -/
def scaleTo (available total : Nat) : Nat := if total ≤ available then 256 else 256 * available / total

/-- The scale factor f from own demand and the draw table (R106, R107, R108). -/
def scaleFactor (c : Configuration) (w : Nat) (ds : List Draw) : Nat :=
  if c.budget = 0 then 256
  else
    match c.cls with
    | .a => scaleTo c.budget (w + classDemand .a ds)
    | .b => scaleTo (c.budget - classDemand .a ds) (w + classDemand .b ds)

/-! ## Period ends -/

/-- A regulation period's 32 ticks have been taken (R93). -/
def periodDue (p : Part) : Bool := decide (32 ≤ p.regulator.ticks)

/-- The regulation period end is also a budget period end (R93). -/
def budgetDue (p : Part) : Bool := periodDue p && decide (3 ≤ p.regulator.periods)

/-- Step 1 of a period end: the setpoint in force and the unscaled duty of every lane (R94, R99). -/
def computeDuties (p : Part) : Part :=
  let sp := setpointOf (cfg p) p.control.mode p.regulator.idle
  { p with
    regulator :=
      { p.regulator with
        setpoint := sp,
        heaters := mapIndexed (fun i x => { x with duty := unscaledDuty p sp i }) p.regulator.heaters } }

/-- Steps 2.1 to 2.3 of a budget period end (R99): the table ages, own demand is formed, f is computed. -/
def computeScale (p : Part) : Part :=
  let draws := ageDraws p.regulator.draws
  let w := ownDemand (cfg p) (p.regulator.heaters.map Heater.duty)
  { p with regulator := { p.regulator with draws := draws, scale := scaleFactor (cfg p) w draws } }

/-- Step 2.4: the DRAW NOTICE, in every mode but START and with a budget (R102). -/
def sendDraw (p : Part) : Part :=
  if p.control.mode = .start ∨ (cfg p).budget = 0 then p
  else send (.drawNotice (cfg p).feed (cfg p).cls (ownDemand (cfg p) (p.regulator.heaters.map Heater.duty))) p

/-- Step 2.5: the listen count falls (R98). -/
def lowerListen (p : Part) : Part := { p with regulator := { p.regulator with listen := p.regulator.listen - 1 } }

/-- Step 2 of a budget period end (R99). -/
def endBudget (p : Part) : Part := lowerListen (sendDraw (computeScale p))

/-- A heater at the beginning of a period: applied duty floor(d × f / 256), output on for it (R100). -/
def startHeater (scale : Nat) (x : Heater) : Heater :=
  { duty := x.duty, applied := x.duty * scale / 256, on := decide (0 < x.duty * scale / 256),
    seen := decide (0 < x.duty * scale / 256) }

/-- Step 3 of a period end: the applied duties, the outputs of the new period, and the period count (R93, R99, R100). -/
def beginPeriod (p : Part) : Part :=
  { p with
    regulator :=
      { p.regulator with
        heaters := p.regulator.heaters.map (startHeater p.regulator.scale),
        ticks := 0,
        periods := if 3 ≤ p.regulator.periods then 0 else p.regulator.periods + 1 } }

/-! ## Outputs within a period -/

/-- The lane's on-time may have run out by now: the tick to come is the last it can reach (R100). -/
def onTimeOver (ticks : Nat) (x : Heater) : Bool := x.on && decide (x.applied < 64) && decide (x.applied ≤ 2 * ticks + 2)

/-- The lane's on-time has run out at or before the tick just taken (R100). -/
def onTimeDue (ticks : Nat) (x : Heater) : Bool := x.on && decide (x.applied < 64) && decide (x.applied ≤ 2 * ticks)

/-- The on-time of a heater ends: its output goes off; ended at the tick just taken, it is not on in the 2 ms that follow (R100,
R110). -/
def endOnTime (ticks : Nat) (x : Heater) : Heater :=
  { x with on := false, seen := x.seen && decide (2 * ticks < x.applied) }

/-- At a tick the output of a lane whose channel is OPEN or OVERHEAT is cut (R100). -/
def cutHeaters (p : Part) : Part :=
  { p with
    regulator :=
      { p.regulator with
        heaters := mapIndexed (fun i x => { x with on := x.on && !laneUnfit p i }) p.regulator.heaters } }

/-! ## The idle clock -/

/-- The idle clock advances by 2 at a tick in RUN or HOLD while the idle flag is clear (R95). -/
def advanceIdle (p : Part) : Part :=
  if idleMode p.control.mode && !p.regulator.idle then
    { p with regulator := { p.regulator with idleClock := p.regulator.idleClock + 2 } }
  else p

/-- The idle clock has reached the idle timeout (R95). -/
def idleDue (p : Part) : Bool :=
  idleMode p.control.mode && !p.regulator.idle && decide (1000 * (cfg p).idleTimeout ≤ p.regulator.idleClock) &&
    p.loader.config.isSome

/-- The idle flag is set (R95). -/
def setIdle (p : Part) : Part := { p with regulator := { p.regulator with idle := true } }

/-- An accepted index restarts the idle clock and clears the flag (R95). -/
def restartIdle (p : Part) : Part := { p with regulator := { p.regulator with idleClock := 0, idle := false } }

end Sys2Proof.Machine
end

