-- ==== Sys2Proof/Machine/Ticks.lean ====
section
/-! DEFINITION. One sample tick: contact, dwell sample and lift test (R117, R118, R136 to R142), the level alarms (R168), the
monitor's tick (R174 to R178). -/

namespace Sys2Proof.Machine

/-! ## One dwell sample -/

/-- The lane's contact ends by a channel failure (R142): nothing happens to a lane whose contact has ended. -/
def failLane (l : LaneDose) : LaneDose :=
  match l.contact with
  | .ended => l
  | _ => { l with contact := .ended, sensorEnd := true }

/-- A dwell sample in contact adds its increment and marks the lane's drift (R139 step 3). -/
def addSample (drift : Bool) (inc : Nat) (l : LaneDose) : LaneDose :=
  { l with acc := accumulate l.acc inc, drift := l.drift || drift, sampled := true }

/-- The lift is commanded at a dwell sample: without lift lead the contact ends, else the lag begins (R140). -/
def liftLane (lead sample : Nat) (l : LaneDose) : LaneDose :=
  { l with lift := some sample, contact := if lead = 0 then .ended else .lag lead }

/-- The lift test of a row cycle after a sample's increment, the sum formed in full (R140). -/
def liftTest (lead inc : Nat) (l : LaneDose) : Bool := decide (l.aim ≤ l.acc + lead * inc)

/-- One lane at a dwell sample, steps 2 to 4 of R139. In a dry cycle the lift test is not made (R152). A lag that reaches 0 is
left at 0: LAG_END ends the contact at the same sample (R141, log 2). -/
def sampleLane (lead : Nat) (row : Bool) (sample : Nat) (drift isOpen : Bool) (inc : Nat) (l : LaneDose) : LaneDose :=
  match l.contact with
  | .ended => l
  | .inContact =>
    if isOpen then failLane l
    else
      if row && liftTest lead inc (addSample drift inc l) then liftLane lead sample (addSample drift inc l)
      else addSample drift inc l
  | .lag r => if isOpen then failLane l else { addSample drift inc l with contact := .lag (r - 1) }

/-- The tick's pressure lies below Pmin (R137, R139). -/
def belowPmin (p : Part) : Bool := decide (p.sampling.pressure < (cfg p).pmin)

/-- The increment of lane i in the tick's sample (R137, R138). -/
def laneIncrement (p : Part) (i : Nat) : Nat :=
  increment (cfg p) (laneChannel p i).temp (contactWeight (cfg p) p.sampling.pressure)

/-- Steps 1 to 4 of a dwell sample (R139). -/
def dwellSample (p : Part) : Part :=
  { p with
    dose :=
      { p.dose with
        samples := p.dose.samples + 1,
        lost := if belowPmin p then min 255 (p.dose.lost + 1) else p.dose.lost,
        drift := p.dose.drift || p.sampling.drift,
        lanes :=
          mapIndexed
            (fun i l =>
              sampleLane (cfg p).lead p.sequencer.dry.isNone (p.dose.samples + 1) p.sampling.drift (laneChannel p i).isOpen
                (laneIncrement p i) l) p.dose.lanes } }

/-- Every lane's contact has ended. -/
def allEnded (d : Dose) : Bool := d.lanes.all (fun l => l.contact == .ended)

/-- A row cycle opens at the tick at which every PRESS lane has ended contact (R119); a dry cycle does not end early (R129;
DESIGN CHOICE for a dry cycle in CLOSING, unsafe, log 16). -/
def openIfEnded (p : Part) : Part := if p.sequencer.dry.isNone && allEnded p.dose then openCommand p else p

/-- Contact holds: the closed sensor is active and P is at or above Pmin (R117). -/
def contactHolds (p : Part) : Bool := p.pins.closedSensor && !belowPmin p

/-- Contact is found: DWELL, the close timer stopped, the consecutive close-timeout count 0, f taken for the entry
(R117, R121, R136). -/
def enterDwell (p : Part) : Part :=
  { p with
    sequencer := { p.sequencer with platen := .dwell, closeTimer := none, closeTimeouts := 0 },
    dose := { p.dose with scaleAtStart := p.regulator.scale } }

/-- In CLOSING the lanes whose channels have become OPEN end contact with dose 0 (R118, R142). -/
def failClosing (p : Part) : Part :=
  { p with
    dose :=
      { p.dose with
        lanes := mapIndexed (fun i l => if (laneChannel p i).isOpen then failLane l else l) p.dose.lanes } }

/-- What a tick does to the cycle: the contact test in CLOSING, a dwell sample in DWELL (R117 to R119). A channel that fails at the
contact tick itself fails at dwell sample 1 (log 34). -/
def cycleTick (p : Part) : Part :=
  match p.sequencer.platen with
  | .closing => openIfEnded (if contactHolds p then dwellSample (enterDwell p) else failClosing p)
  | .dwell => openIfEnded (dwellSample p)
  | _ => p

/-- The tick is a dwell sample: the platen is in DWELL, or contact is found at it (R117, R139). -/
def isDwellSample (p : Part) : Bool :=
  match p.sequencer.platen with
  | .closing => contactHolds p
  | .dwell => true
  | _ => false

/-- The level-kind alarms but SUPPLY_SHORT, raised at each tick while their conditions hold (R49, R82, R84, R168). -/
def levelAlarms (p : Part) : Part :=
  raiseIf (decide (16 ≤ p.tracker.quietCount)) .lineQuiet
    (raiseIf (anyInUse Channel.overheat p) .overheat (raiseIf (anyInUse Channel.isOpen p) .sensorOpen p))

/-! ## The monitor's tick -/

/-- A lane condition over the lanes that are in the mask and in use, inverted when invert is set. With mask 0 it counts nothing (R176);
that it is not evaluated then, so that the edge memory is kept, is the model's choice (DESIGN CHOICE, safe, log 51). -/
def laneCondition (t : Control) (lanes : List Nat) (holds : Nat → Bool) : Option Bool :=
  if t.mask = 0 then none else some (t.invert ^^ lanes.any (fun i => t.mask.getLsbD i && holds i))

/-- The lane's heater output was on during the 2 ms that end at the tick (R110). -/
def heaterSeen (p : Part) (lane : Nat) : Bool := (p.regulator.heaters.getD lane Heater.reset).seen

/-- The lane's T is below the setpoint in force minus 8 qd (R176). -/
def belowSetpoint (p : Part) (lane : Nat) : Bool := decide ((laneChannel p lane).temp + 8 < handedSetpoint p)

/-- The mode is HOLD, DRY or FAULT, or the line-stop flag is set (R176). -/
def stopped (p : Part) : Bool := p.control.lineStop || modeHoldsOff p.control.mode

/-- A counter's condition at the tick, after invert; none for a counter that evaluates nothing here: it is disabled, or selects
no condition event, or one that reads the regulator (R176, R177). `lost` says that the tick is a dwell sample with P below Pmin. -/
def conditionAt (p : Part) (lost : Bool) (t : Control) : Option Bool :=
  if !t.enable then none
  else if t.select = eventCode .heaterOn then laneCondition t (lanesInUse (cfg p)) (heaterSeen p)
  else if t.select = eventCode .platenNotOpen then some (t.invert ^^ decide (p.sequencer.platen ≠ .opened))
  else if t.select = eventCode .contactLost then some (t.invert ^^ lost)
  else if t.select = eventCode .stopped then some (t.invert ^^ stopped p)
  else none

/-- A counter's condition at the tick where it reads the setpoint in force or f, after invert (R94, R109, R176). -/
def regulatorConditionAt (p : Part) (t : Control) : Option Bool :=
  if !t.enable then none
  else if t.select = eventCode .belowSetpoint then laneCondition t (lanesInUse (cfg p)) (belowSetpoint p)
  else if t.select = eventCode .budgetScaled then some (t.invert ^^ decide (p.regulator.scale < 256))
  else none

/-- What a counter adds for its condition at a tick: ticks with edge clear, rises with edge set (R177). -/
def conditionAmount (condition : Option Bool) (t : Control) : Nat :=
  match condition with
  | some b => bitOf (b && !(t.edge && t.memory))
  | none => 0

/-- The edge memory takes the condition at every tick at which it is evaluated, frozen or not (R177). -/
def rememberCondition (condition : Option Bool) (t : Control) : Control :=
  match condition with
  | some b => { t with memory := b }
  | none => t

/-- Counter 6 adds 1 at the tick, unless frozen (R178, R179). -/
def countTick (m : Monitor) : Monitor :=
  if m.frozen.isSome then m else { m with counters := updateAt m.counters 6 (fun c => addTo c 1) }

/-- Every programmable counter adds for its condition, and its edge memory takes it (R177). -/
def takeConditions (condition : Control → Option Bool) (m : Monitor) : Monitor :=
  let n := addAll (fun t => conditionAmount (condition t) t) m
  { n with controls := n.controls.map (fun t => rememberCondition (condition t) t) }

/-- The monitor at a tick: the fixed counter, the queue's length, and the conditions that do not read the regulator (R174, R176 to
R178). The queue is counted before the events due at the tick and the arrival at its end add their frames (DESIGN CHOICE, unsafe,
log 49). -/
def monitorTick (lost : Bool) (p : Part) : Part :=
  { p with
    monitor := takeConditions (conditionAt p lost) (occur .txqOccupancy p.port.queue.length (countTick p.monitor)) }

/-- What reads f and the setpoint in force at a tick: SUPPLY_SHORT, and the conditions BELOW_SETPOINT and BUDGET_SCALED. They are
read as they stand at the tick, at a period end after it (R94, R109, R168, R176; DEDUCED for the setpoint, unsafe, log 21). -/
def readRegulator (p : Part) : Part :=
  raiseIf (decide (p.regulator.scale < 256)) .supplyShort
    { p with monitor := takeConditions (regulatorConditionAt p) p.monitor }

/-! ## The whole tick -/

/-- The regulator counts the tick: a period has 32 (R93). -/
def countPeriodTick (p : Part) : Part :=
  { p with regulator := { p.regulator with ticks := min 32 (p.regulator.ticks + 1) } }

/-- The sampling unit takes the tick's conversions (R74, R86). -/
def takeConversions (conv : Conversions) (p : Part) : Part := { p with sampling := sampleUnit (cfg p) conv p.sampling }

/-- One sample tick while a configuration is in force (R73; DEDUCED for the order of the blocks, unsafe, log 22): conversions,
heater cuts, the cycle, level alarms, idle clock, period count, monitor. At a tick that ends a regulation period, what reads the
regulator waits for that end (log 21). -/
def tick (conv : Conversions) (p : Part) : Part :=
  let p := cutHeaters (takeConversions conv p)
  let lost := isDwellSample p && belowPmin p
  let p := monitorTick lost (countPeriodTick (advanceIdle (levelAlarms (cycleTick p))))
  markHeaters (if periodDue p then p else readRegulator p)

/-- SAMPLE_TICK: a tick is made while a configuration is in force (R73; log 3). -/
def takeTick (conv : Conversions) (p : Part) : Part := if p.loader.config.isSome then tick conv p else p

/-! ## A recovery brought by itself -/

/-- The physical channel is one clean tick short of its sixteenth (R81). -/
def recoveryDue (p : Part) (channel : Nat) : Bool :=
  match p.sampling.channels[channel]? with
  | some x => x.isOpen && decide (x.recovery = 15)
  | none => false

/-- The sixteenth clean tick of an OPEN channel in use, outside a reference check, given by itself: the channel stops being OPEN
and T is taken (R81, R86; log 3). -/
def recover (channel : Nat) (conv : List Conversion) (p : Part) : Part :=
  if p.loader.config.isSome && p.sampling.check.isNone && decide (channel < (cfg p).lanes) && recoveryDue p channel
      && !flagged (made (cfg p) conv) then
    { p with
      sampling :=
        { p.sampling with
          channels := updateAt p.sampling.channels channel (takeTemperature (cfg p) channel (made (cfg p) conv)) } }
  else p

end Sys2Proof.Machine
end

