-- ==== Sys2Proof/Machine/Due.lean ====
section
/-! DEFINITION. The events that fall due at a sample tick and are rows of the table of their own: each with its condition and its
effect (DEDUCED, log 2). -/

namespace Sys2Proof.Machine

/-! ## LAG_END -/

/-- The lane's lag has reached 0 and its contact has not ended yet (R141). -/
def lagOver (l : LaneDose) : Bool := l.contact == .lag 0

/-- LAG_END is due for the lane. -/
def lagDue (p : Part) (lane : Nat) : Bool := lagOver (laneDose p lane)

/-- The lane's contact is ended. -/
def endLane (l : LaneDose) : LaneDose := { l with contact := .ended }

/-- In DWELL, a row cycle whose PRESS lanes have all ended contact gets the open command (R119, R141). -/
def openAfterLag (p : Part) : Part := if p.sequencer.platen = .dwell then openIfEnded p else p

/-- The lane's contact ends with its lag (R141). -/
def endLag (lane : Nat) (p : Part) : Part :=
  if lagDue p lane then openAfterLag { p with dose := { p.dose with lanes := updateAt p.dose.lanes lane endLane } } else p

/-- Every lag that has reached 0 ends (R141). -/
def endLags (p : Part) : Part :=
  if p.dose.lanes.any lagOver then
    openAfterLag
      { p with dose := { p.dose with lanes := p.dose.lanes.map (fun l => if lagOver l then endLane l else l) } }
  else p

/-! ## DWELL_LIMIT -/

/-- The dwell sample count of a row cycle has reached Nmax (R119, R143). -/
def limitDue (p : Part) : Bool :=
  p.sequencer.platen == .dwell && p.sequencer.dry.isNone && decide (p.sequencer.dwellLimit ≤ p.dose.samples)

/-- The dwell ends at its limit with the open command (R119, R143). -/
def endAtLimit (p : Part) : Part := if limitDue p then openCommand p else p

/-! ## DRY_LIFT_COMMAND and DRY_DWELL_END -/

/-- The dwell sample at which a dry cycle commands the lift of the lane (R129 step 4). -/
def dryLiftSample (c : Configuration) (lane : Nat) : Nat := c.nconf * (lane + 1) / (c.lanes + 1)

/-- The lane's dry lift is due: pressed, not yet commanded, its sample reached (R129 step 4). -/
def dryLiftDue (p : Part) (lane : Nat) : Bool :=
  p.sequencer.platen == .dwell && p.sequencer.dry.isSome && (laneDose p lane).contact == .inContact &&
    decide (lane < (cfg p).lanes) && decide (dryLiftSample (cfg p) lane ≤ p.dose.samples)

/-- The dry lift of a lane is commanded (R129 step 4, R152). -/
def dryLift (lane : Nat) (p : Part) : Part :=
  if dryLiftDue p lane then
    { p with
      dose := { p.dose with lanes := updateAt p.dose.lanes lane (liftLane (cfg p).lead p.dose.samples) } }
  else p

/-- Every dry lift that is due is commanded (R129 step 4). -/
def dryLifts (p : Part) : Part :=
  { p with
    dose :=
      { p.dose with
        lanes :=
          mapIndexed (fun i l => if dryLiftDue p i then liftLane (cfg p).lead p.dose.samples l else l) p.dose.lanes } }

/-- The dwell of a dry cycle has reached sample Nconf (R129 step 5). -/
def dryEndDue (p : Part) : Bool :=
  p.sequencer.platen == .dwell && p.sequencer.dry.isSome && decide ((cfg p).nconf ≤ p.dose.samples)

/-- The open command at sample Nconf of a dry dwell (R129 step 5). -/
def endDryDwell (p : Part) : Part := if dryEndDue p then openCommand p else p

/-! ## REF_CHECK_END, IDLE_TIMEOUT, HEATER_ON_TIME_END and the period ends -/

/-- A reference check whose ten ticks are taken ends (R86, R87). -/
def endDueCheck (p : Part) : Part := if checkDue p then endCheck p else p

/-- The idle flag is set at the tick at which the idle clock reaches the timeout (R95). -/
def endIdle (p : Part) : Part := if idleDue p then setIdle p else p

/-- The lane's heater. -/
def laneHeater (p : Part) (lane : Nat) : Heater := p.regulator.heaters.getD lane Heater.reset

/-- The lane's on-time ends, when it can have run out by now (R100). -/
def endHeater (lane : Nat) (p : Part) : Part :=
  if onTimeOver p.regulator.ticks (laneHeater p lane) then
    { p with
      regulator :=
        { p.regulator with heaters := updateAt p.regulator.heaters lane (endOnTime p.regulator.ticks) } }
  else p

/-- Every on-time that has run out at the tick just taken ends (R100). -/
def endHeaters (p : Part) : Part :=
  { p with
    regulator :=
      { p.regulator with
        heaters :=
          p.regulator.heaters.map
            (fun x => if onTimeDue p.regulator.ticks x then endOnTime p.regulator.ticks x else x) } }

/-- A regulation period end (R99), a budget period end among them; then what reads f and the setpoint at the tick reads those of the
period that begins (log 21). -/
def endPeriod (p : Part) : Part :=
  let budget := budgetDue p
  let p := computeDuties p
  readRegulator (beginPeriod (if budget then endBudget p else p))

/-- A regulation period whose 32 ticks are taken ends, a budget period end among them (R93, R99). -/
def endDuePeriod (p : Part) : Part := if periodDue p then endPeriod p else p

/-- A budget period end, when it is due (R93, R99). -/
def endDueBudget (p : Part) : Part := if budgetDue p then endPeriod p else p

end Sys2Proof.Machine
end

