-- ==== Sys2Proof/Machine/Cycle.lean ====
section
/-! DEFINITION. The accepted index (R27 to R38, R113, R125), the settle end, the timeouts, the sensors' and the dry timer's events
(R114, R115, R120, R122, R123, R127, R128), the stop input (R160). -/

namespace Sys2Proof.Machine

/-! ## The index edge -/

/-- The tracker after an edge at time `t` is accepted: the period, the edge time and the accepted-index count (R30, R31). -/
def recordEdge (t : Nat) (k : Tracker) : Tracker :=
  { k with
    lastPeriod := match k.lastEdge with
      | some e => some (min 65535 (t - e))
      | none => k.lastPeriod,
    lastEdge := some t,
    indexCount := k.indexCount + 1 }

/-- The quiet count after an accepted index: one more in RUN, 0 in any other mode (R49). -/
def quietAfterIndex (m : Mode) (n : Nat) : Nat := if m = .run then min 255 (n + 1) else 0

/-- The quiet count's part of an accepted index. -/
def countQuiet (p : Part) : Part :=
  { p with tracker := { p.tracker with quietCount := quietAfterIndex p.control.mode p.tracker.quietCount } }

/-- The index finds the platen in CLOSING, DWELL or OPENING: with H present it is a forced index (R125). -/
def platenAway (q : Platen) : Bool :=
  match q with
  | .opened => false
  | .settle => false
  | _ => true

/-- The point at which an accepted index concludes an unconcluded head row (R37). -/
def indexPoint (p : Part) : ConclusionPoint :=
  if platenAway p.sequencer.platen then .forcedIndex
  else if p.control.mode = .run then .retired .missed
  else .retired .station

/-- In CLOSING or DWELL the open command is given; in OPENING it stands already (R125). -/
def openIfClosed (p : Part) : Part :=
  match p.sequencer.platen with
  | .closing => openCommand p
  | .dwell => openCommand p
  | _ => p

/-- The sequencer's part of a forced index (R125); in DRY the dry cycle is aborted first (R130). -/
def forcedIndex (p : Part) : Part :=
  let p := if p.control.mode = .dry then abortDry true p else p
  takeFault 2 (raise .forcedIndex (openIfClosed p))

/-- The sequencer is told of an accepted index with H present (R113). -/
def tellSequencer (p : Part) : Part :=
  if platenAway p.sequencer.platen then forcedIndex p
  else
    match p.control.mode with
    | .run => beginSettle p
    | .dry => abortDry false p
    | _ => backToOpen p

/-- The tracker's steps with H absent: in SEEK the alignment candidate advances by one (R38, R40). -/
def advanceCandidate (p : Part) : Part :=
  if p.control.mode = .seek then
    { p with tracker := { p.tracker with candidate := p.tracker.candidate.map (· + 1) } }
  else p

/-- The steps of R36, or of R38 with H absent. -/
def advanceRows (p : Part) : Part :=
  match p.tracker.h with
  | none => advanceCandidate p
  | some h => tellSequencer (advanceQueue h (concludeHead (indexPoint p) p))

/-- An accepted index at time `t` (R28 to R31, R36; DESIGN CHOICE for what precedes the steps of R36, safe, log 12). -/
def acceptIndex (t : Nat) (p : Part) : Part :=
  let p := count .index { p with tracker := recordEdge t p.tracker }
  clearChatter (advanceRows (countQuiet (restartIdle (ageQueue p))))

/-- A chatter edge: counted, and the chatter mark is set (R28, R29). -/
def chatterEdge (p : Part) : Part := count .indexChatter { p with tracker := { p.tracker with chatter := true } }

/-- The edge at time `t` comes too soon after the last accepted one (R28). -/
def isChatter (c : Configuration) (last : Option Nat) (t : Nat) : Bool :=
  match last with
  | some e => decide (t - e < c.minIndex)
  | none => false

/-- The free-running millisecond count at an edge: a reading below the last is taken as the last (R27; DESIGN CHOICE, unsafe,
log 5). -/
def readClock (now : Nat) (p : Part) : Part :=
  { p with tracker := { p.tracker with msCount := max now p.tracker.msCount } }

/-- An index edge (R27, R28): ignored in START, else chatter or an accepted index. -/
def takeEdge (now : Nat) (p : Part) : Part :=
  if p.control.mode = .start then p
  else
    let p := readClock now p
    if isChatter (cfg p) p.tracker.lastEdge p.tracker.msCount then chatterEdge p else acceptIndex p.tracker.msCount p

/-! ## The sequencer's own timers -/

/-- The settle delay has ended (R114, R115, R129): of a dry cycle, or of a row cycle. -/
def endSettle (p : Part) : Part :=
  if p.sequencer.platen = .settle ∧ p.sequencer.settleTimer.isSome then
    if p.sequencer.dry.isSome then beginDue (settleDry p) else settleRow p
  else p

/-- The cycle that a close timeout ends: the row concludes with no-contact, or the dry cycle's entry is added and the cycle goes on
to OPEN (R120, R129, R152). -/
def concludeTimeout (p : Part) : Part :=
  match p.sequencer.dry with
  | none => concludeHead .closeTimeout p
  | some cycle =>
    logCycle cycle.tag true false false
      { p with sequencer := { p.sequencer with dry := some { cycle with logged := true } } }

/-- The consecutive close-timeout count rises; at 3 a fault is handed over (R121). -/
def countTimeout (p : Part) : Part :=
  let n := min 3 (p.sequencer.closeTimeouts + 1)
  let p := { p with sequencer := { p.sequencer with closeTimeouts := n } }
  if n = 3 then takeFault 3 p else p

/-- The close timer has run out in CLOSING (R120, R121; DESIGN CHOICE for the order within the event, safe, log 14). -/
def timeOutClose (p : Part) : Part :=
  if p.sequencer.platen = .closing ∧ p.sequencer.closeTimer.isSome then
    countTimeout (raise .closeTimeout (concludeTimeout (openCommand p)))
  else p

/-- The open timer has run out in OPENING (R123). -/
def timeOutOpen (p : Part) : Part :=
  if p.sequencer.platen = .opening ∧ p.sequencer.openTimer.isSome then
    takeFault 1 (raise .openTimeout { p with sequencer := { p.sequencer with openTimer := none } })
  else p

/-- The dry timer has reached the dry period (R128): a cycle begins with the platen OPEN, else it is held due. -/
def expireDryPeriod (p : Part) : Part :=
  if p.control.mode = .dry ∧ p.sequencer.dryTimer.isSome then
    if p.sequencer.platen = .opened then beginDry p
    else { p with sequencer := { p.sequencer with dryTimer := none, dryDue := true } }
  else p

/-! ## Pins -/

/-- The open sensor's level (R127); the entry to OPEN follows at the end of the event (R122, log 15). -/
def setOpenSensor (active : Bool) (p : Part) : Part := { p with pins := { p.pins with openSensor := active } }

/-- The closed sensor's level (R127). -/
def setClosedSensor (active : Bool) (p : Part) : Part := { p with pins := { p.pins with closedSensor := active } }

/-- The strap pins' levels; they are read at step 1 of a start only (R195). -/
def setStraps (straps : BitVec 5) (p : Part) : Part := { p with pins := { p.pins with straps := straps } }

/-- The stop input goes active: taken as an activation in every mode but START (R160). -/
def stopInputOn (p : Part) : Part :=
  if p.pins.stopInput then p
  else
    let p := { p with pins := { p.pins with stopInput := true } }
    if p.control.mode = .start then p else activateStop p

/-- The stop input goes inactive (R160). -/
def stopInputOff (p : Part) : Part := { p with pins := { p.pins with stopInput := false } }

end Sys2Proof.Machine
end

