-- ==== Sys2Proof/Machine/Loading.lean ====
section
/-! DEFINITION. The start-up loader: the configuration block read, checked, clamped, tested and laid out again (R16, R197 to R199),
the start sequence (R194 to R196, R200) and the resets (R26, R48, R92, R111, R131, R154, R171, R182, R187, R193, R201). -/

namespace Sys2Proof.Machine

/-! ## The configuration block -/

/-- The magic word of a block (R16). -/
def magicWord : Nat := 49374

/-- The number of bytes of a block (R16). -/
def blockLength : Nat := 95

/-- The class of a class byte: a byte above 1 is taken as B (Configuration Field Summary). -/
def classOf (n : Nat) : DrawClass := if n = 0 then .a else .b

/-- The fields of a block as its bytes hold them (R16). -/
def readBlock (b : List Byte) : Configuration :=
  { stage := byteAt b 4, stages := byteAt b 5, position := byteAt b 6, lanes := byteAt b 7, options := b.getD 8 0,
    evidence := byteAt b 9, minIndex := fieldAt b 10, motion := fieldAt b 12, settle := byteAt b 14,
    release := fieldAt b 15, closeTimeout := fieldAt b 17, openTimeout := fieldAt b 19, idleTimeout := fieldAt b 21,
    dryPeriod := fieldAt b 23, nconf := fieldAt b 25, nmin := fieldAt b 27, lead := byteAt b 29, tact := fieldAt b 30,
    pmin := fieldAt b 32, pref := fieldAt b 34, share1 := fieldAt b 36, share2 := fieldAt b 38, share3 := fieldAt b 40,
    share4 := fieldAt b 42, dtarget := fieldAt b 44, dmin := fieldAt b 46, dmax := fieldAt b 48, pspan := fieldAt b 50,
    poffset := signedByteAt b 52, offsets := (List.range 8).map (fun i => signedByteAt b (53 + i)),
    averaging := byteAt b 61, tlimit := fieldAt b 62, refTol := byteAt b 64, spRun := fieldAt b 65, spStby := fieldAt b 67,
    bias := byteAt b 69, gain := byteAt b 70, wlane := (List.range 8).map (fun i => fieldAt b (71 + 2 * i)),
    feed := byteAt b 87, cls := classOf (byteAt b 88), budget := fieldAt b 89,
    alarmMask := BitVec.ofNat 16 (fieldAt b 91) }

/-- Each field on its own brought into its range (R198, Configuration Field Summary). -/
def clampFields (c : Configuration) : Configuration :=
  { c with
    position := min 254 c.position, lanes := clampNat c.lanes 1 8, evidence := clampNat c.evidence 2 7,
    minIndex := clampNat c.minIndex 50 2000, closeTimeout := clampNat c.closeTimeout 50 2000,
    openTimeout := clampNat c.openTimeout 100 10000, idleTimeout := clampNat c.idleTimeout 1 600,
    dryPeriod := clampNat c.dryPeriod 500 10000, nconf := clampNat c.nconf 10 500, lead := min 15 c.lead,
    tact := min 1600 c.tact, pmin := min 1000 c.pmin, pref := clampNat c.pref 1 1000,
    pspan := clampNat c.pspan 100 1000, poffset := clampInt c.poffset (-100) 100, averaging := min 3 c.averaging,
    tlimit := min 1600 c.tlimit, spRun := min 1600 c.spRun, spStby := min 1600 c.spStby, bias := min 64 c.bias,
    wlane := c.wlane.map (min 2000), feed := min 3 c.feed }

/-- The fields whose range depends on another, the other taken as clamped (R198). -/
def clampDependents (c : Configuration) : Configuration :=
  { c with
    nmin := clampNat c.nmin 5 c.nconf, pref := max c.pmin c.pref, dmin := min c.dtarget c.dmin,
    dmax := max c.dtarget c.dmax }

/-- Step 4 of the start sequence (R198). -/
def clampBlock (c : Configuration) : Configuration := clampDependents (clampFields c)

/-- Step 4 changed at least one field; a class byte above 1 counts as changed (R198; DESIGN CHOICE for the class byte, unsafe,
log 23). -/
def clampedAny (b : List Byte) : Bool :=
  decide (clampBlock (readBlock b) ≠ readBlock b) || decide (1 < byteAt b 88)

/-- A structural error of a clamped block (R199). -/
def structuralError (c : Configuration) : Bool :=
  decide (c.stage < 1 ∨ 4 < c.stage ∨ c.stages < 1 ∨ 4 < c.stages ∨ c.stages < c.stage ∨
    (1 < c.stages ∧ c.share1 = 0 ∧ c.share2 = 0 ∧ c.share3 = 0 ∧ c.share4 = 0) ∨ c.dtarget = 0)

/-- The 16-bit sum of bytes 0 to 92 (R16). -/
def blockSum (b : List Byte) : Nat := ((b.take 93).map BitVec.toNat).sum % 65536

/-- Magic word, length field and sum agree (R197). -/
def checksPass (b : List Byte) : Bool :=
  fieldAt b 0 == magicWord && fieldAt b 2 == blockLength && blockSum b == fieldAt b 93

/-- The locator names a block of 95 bytes (R197). -/
def locatorSound (m : MemoryRead) : Bool :=
  decide (m.startAddr.toNat ≤ m.endAddr.toNat) && m.endAddr.toNat - m.startAddr.toNat + 1 == blockLength

/-- The 95 bytes kept as read, a byte that could not be read given as 0 (R190, R197). -/
def keptBytes (bytes : List Byte) : List Byte := (List.range blockLength).map (fun i => bytes.getD i 0)

/-- Bytes 0 to 92 of a configuration in force, laid out as R16 says. -/
def blockBody (c : Configuration) : List Byte :=
  bytes16 magicWord ++ bytes16 blockLength ++
    [byteOf c.stage, byteOf c.stages, byteOf c.position, byteOf c.lanes, c.options, byteOf c.evidence] ++
    bytes16 c.minIndex ++ bytes16 c.motion ++ [byteOf c.settle] ++ bytes16 c.release ++ bytes16 c.closeTimeout ++
    bytes16 c.openTimeout ++ bytes16 c.idleTimeout ++ bytes16 c.dryPeriod ++ bytes16 c.nconf ++ bytes16 c.nmin ++
    [byteOf c.lead] ++ bytes16 c.tact ++ bytes16 c.pmin ++ bytes16 c.pref ++ bytes16 c.share1 ++ bytes16 c.share2 ++
    bytes16 c.share3 ++ bytes16 c.share4 ++ bytes16 c.dtarget ++ bytes16 c.dmin ++ bytes16 c.dmax ++ bytes16 c.pspan ++
    [BitVec.ofInt 8 c.poffset] ++ c.offsets.map (BitVec.ofInt 8) ++ [byteOf c.averaging] ++ bytes16 c.tlimit ++
    [byteOf c.refTol] ++ bytes16 c.spRun ++ bytes16 c.spStby ++ [byteOf c.bias, byteOf c.gain] ++
    c.wlane.flatMap bytes16 ++ [byteOf c.feed, byteOf (classCode c.cls)] ++ bytes16 c.budget ++
    bytes16 c.alarmMask.toNat

/-- The block that READ CONFIG returns for a configuration in force, its sum formed anew (R16, R198). -/
def blockBytes (c : Configuration) : List Byte := blockBody c ++ bytes16 (blockSum (blockBody c))

/-! ## The start sequence -/

/-- The straps as sampled give no station number (R195). -/
def strapsInvalid (p : Part) : Bool := p.loader.straps == 0 || p.loader.straps == 31

/-- Step 1 and the start of step 2: the straps are sampled and the crystal is started (R194 to R196). -/
def sampleStraps (p : Part) : Part :=
  { p with loader := { p.loader with phase := .crystal, straps := p.pins.straps } }

/-- The start sequence begins unless the reset input holds the part in its reset state (R194). -/
def beginStart (p : Part) : Part := if p.pins.resetInput then p else sampleStraps p

/-- Step 2 ends: the clock source is settled (R196). -/
def settleClock (k : ClockSource) (p : Part) : Part :=
  { p with loader := { p.loader with phase := .reading, clock := k } }

/-- The crystal runs within its 20 ms (R196). -/
def crystalRuns (p : Part) : Part := if p.loader.phase = .crystal then settleClock .crystal p else p

/-- The 20 ms end without the crystal (R196). -/
def crystalFails (p : Part) : Part :=
  if p.loader.phase = .crystal then raise .clockFallback (settleClock .internal p) else p

/-- The start ends in CONFIG_BAD, with the block bytes kept when there were any (R195, R197, R199). -/
def endConfigBad (block : Option (List Byte)) (p : Part) : Part :=
  { p with loader := { p.loader with phase := .configBad, block := block } }

/-- Step 6: the clamped block is put in force, with the setpoint and the dwell limit it gives (R94, R131), and the reference check
of start-up is started (R91, R200). -/
def putInForce (b : List Byte) (p : Part) : Part :=
  let c := clampBlock (readBlock b)
  let p :=
    { p with
      loader := { p.loader with phase := .checking, block := some b, config := some c },
      regulator := { p.regulator with setpoint := c.spRun },
      sequencer := { p.sequencer with dwellLimit := c.nconf } }
  startCheck (raiseIf (clampedAny b) .configClamped p)

/-- Steps 3 to 6 on a locator and block as read (R195, R197 to R200). -/
def loadBlock (m : MemoryRead) (p : Part) : Part :=
  if p.loader.phase = .reading then
    if locatorSound m then
      let b := keptBytes m.bytes
      if strapsInvalid p || !checksPass b || structuralError (clampBlock (readBlock b)) then endConfigBad (some b) p
      else putInForce b p
    else endConfigBad none p
  else p

/-- The start wait has run out (R200): a start fault of code 5, without OPEN_TIMEOUT. -/
def timeOutStart (p : Part) : Part :=
  if p.loader.phase = .waiting then
    takeFault 5 { p with loader := { p.loader with phase := .failed, waitTimer := none } }
  else p

/-! ## Resets -/

/-- The monitor after a RESTART: counters, wrap flags and controls kept, edge memories false, not frozen, no snapshot (R182). -/
def restartMonitor (m : Monitor) : Monitor :=
  { m with controls := m.controls.map (fun t => { t with memory := false }), frozen := none, snapshot := none }

/-- The pins at a reset: outputs as the reset rules say, input levels as they are (log 6). -/
def resetPins (q : Pins) : Pins :=
  { Pins.reset with
    straps := q.straps, resetInput := q.resetInput, stopInput := q.stopInput, openSensor := q.openSensor,
    closedSensor := q.closedSensor }

/-- A frame stands on the line that the port will not take in: one it was taking in, its own that stops where it stands, or one it
had given up on (R2, R26). -/
def frameCut (p : Part) : Bool := p.port.waitQuiet || p.port.receiving || transmitting p

/-- The state every block keeps while reset is held: as after RESTART, which keeps the monitor's counts, the dwell log and the
factory value (R26, R48, R92, R111, R131, R154, R171, R182, R187, R193, R194, R201). A frame that stands on the line is discarded:
what still comes of it is not taken in before the line goes quiet (R26; DEDUCED for the wait, safe, log 52). -/
def resetPart (p : Part) : Part :=
  { Part.reset with
    port := { LinePort.reset with waitQuiet := frameCut p },
    sampling := Sampling.reset p.sampling.factory,
    monitor := restartMonitor p.monitor,
    log := p.log,
    pins := resetPins p.pins }

/-- A RESTART is performed (R192, R194). -/
def restartPart (p : Part) : Part := beginStart (resetPart p)

/-- POWER-ON: the monitor and the dwell log start empty as well (R182, R187, R194). -/
def powerPart (p : Part) : Part :=
  beginStart { resetPart p with monitor := Monitor.reset, log := DwellLog.reset }

/-- The reset input goes active: the part is held in its reset state (R194). -/
def holdReset (p : Part) : Part := resetPart { p with pins := { p.pins with resetInput := true } }

/-- The reset input is released: a part that is held begins its start sequence (R194). -/
def releaseReset (p : Part) : Part :=
  let p := { p with pins := { p.pins with resetInput := false } }
  if p.loader.phase = .off then sampleStraps p else p

end Sys2Proof.Machine
end

