-- ==== Sys2Proof/Machine/Events.lean ====
section
/-! DEFINITION. How an event is taken as a whole: what is due before it, the entry to OPEN and the pending restart at its end, and
the outputs driven after it (R112, R122, R124, R169, R192). -/

namespace Sys2Proof.Machine

/-! ## Outputs -/

/-- The heater output of a physical channel: on with its lane's heater, off for a channel that serves no lane (R54, R100). -/
def heaterOutput (p : Part) (channel : Nat) : Bool :=
  decide (channel < (cfg p).lanes) && (laneHeater p (channelOf (cfg p) channel)).on

/-- The close valve is driven in CLOSING and DWELL, the open valve in every other state (R112). -/
def closing (q : Platen) : Bool :=
  match q with
  | .closing => true
  | .dwell => true
  | _ => false

/-- The lift output of a physical channel: released in CLOSING and DWELL for a pressed lane still in contact, asserted in every
other case (R54, R112, R118). -/
def liftOutput (p : Part) (channel : Nat) : Bool :=
  !(closing p.sequencer.platen && decide (channel < (cfg p).lanes) &&
    (laneDose p (channelOf (cfg p) channel)).contact == .inContact)

/-- PERMIT (R124). -/
def permitOutput (p : Part) : Bool :=
  p.sequencer.platen == .opened && p.pins.openSensor && !(p.control.mode == .start) && !(p.control.mode == .fault)

/-- ALARM: an enabled raw flag is set, or the start ended in CONFIG_BAD (R169). -/
def alarmOutput (p : Part) : Bool := decide (p.control.alarms &&& enableMask p ≠ 0) || p.loader.phase == .configBad

/-- The pins with every output driven as the blocks' state says. -/
def drivenPins (p : Part) : Pins :=
  { p.pins with
    heaters := (List.range 8).map (heaterOutput p),
    lifts := (List.range 8).map (liftOutput p),
    openValve := !closing p.sequencer.platen,
    closeValve := closing p.sequencer.platen,
    permit := permitOutput p,
    alarm := alarmOutput p }

/-- The outputs follow the blocks' state at once (R100, R112, R124, R169). -/
def drive (p : Part) : Part := { p with pins := drivenPins p }

/-! ## The end of an event -/

/-- The RESTART reply that a pending restart waits for has left the transmit queue (R192). -/
def restartDue (p : Part) : Bool := p.responder.pendingRestart && !p.port.queue.any TxFrame.restartReply

/-- The pending restart is performed once its reply has left (R192; DESIGN CHOICE for the moment, the end of the event, safe,
log 13). -/
def restartIfDue (p : Part) : Part := if restartDue p then restartPart p else p

/-- What follows every event: the entry to OPEN if the open sensor is active in OPENING (R122, log 15), and the pending restart,
after which the platen enters OPEN as from any reset (R131). -/
def conclude (p : Part) : Part := arrive (restartIfDue (arrive p))

/-- The end of every event: what follows it, and the outputs. -/
def finish (p : Part) : Part := drive (conclude p)

/-! ## All that is due -/

/-- Every event that a sample tick has made due is taken, in this order, before the next command from outside (DEDUCED, unsafe,
log 2). A restart whose reply a frame of a check's end displaces is performed there (R22, R192), before the end of a regulation period
of the same tick, whose BELOW_SETPOINT and BUDGET_SCALED are then not evaluated; nor are they after a restart at the arrival that ends
the tick (DESIGN CHOICE, unsafe, log 50). -/
def settle (p : Part) : Part :=
  endDuePeriod (endHeaters (endIdle (restartIfDue (endDueCheck (endDryDwell (dryLifts (endAtLimit (endLags p))))))))

/-- The part as a command from outside finds it: everything that is due has been taken, and what follows it (log 2, log 13). -/
def ready (p : Part) : Part := conclude (settle p)

/-- The part after a command from outside: first everything that is due, then the command's own effect. -/
def runPart (f : Part → Part) (p : Part) : Part := finish (f (ready p))

/-- A command from outside. -/
def run (f : Part → Part) (s : State) : Host.Outcome State Fault Refusal := .next { s with part := runPart f s.part }

/-- The part after an event that itself falls due, or after POWER-ON: nothing is taken before it. -/
def runDuePart (f : Part → Part) (p : Part) : Part := finish (f p)

/-- An event that itself falls due, or POWER-ON. -/
def runDue (f : Part → Part) (s : State) : Host.Outcome State Fault Refusal :=
  .next { s with part := runDuePart f s.part }

end Sys2Proof.Machine
end

