-- ==== Sys2Proof/Machine/Requests.lean ====
section
/-! DEFINITION. The service responder: the tests on a request (R188, R189), its effect and its reply, request by request (R12 to
R15, R70, R170, R173, R179 to R181, R185, R186, R190 to R192). -/

namespace Sys2Proof.Machine

/-! ## Replies -/

/-- A reply is built for the requester and joins the transmit queue (R12, R188). -/
def reply (h : Header) (code : Byte) (status : ReplyStatus) (data : List Byte) (p : Part) : Part :=
  send (.serviceReply h.station code status data) p

/-- A request of the number of argument bytes given (R188): a wrong length is answered BAD, a request whose conditions of acceptance
do not hold REFUSED, any other takes its effect. -/
def request (h : Header) (code : Byte) (size : Nat) (args : List Byte) (accepted : Part → Bool) (act : Part → Part)
    (p : Part) : Part :=
  if args.length = size then (if accepted p then act p else reply h code .refused [] p)
  else reply h code .bad [] p

/-- Accepted in every mode. -/
def always (_ : Part) : Bool := true

/-- Accepted in every mode but START (R189). -/
def outsideStart (p : Part) : Bool := !(p.control.mode == .start)

/-! ## STATUS -/

/-- The code of a mode (R13). -/
def modeCode (m : Mode) : Nat :=
  match m with
  | .start => 0
  | .seek => 1
  | .run => 2
  | .hold => 3
  | .dry => 4
  | .fault => 5

/-- The code of a platen state (R13). -/
def platenCode (q : Platen) : Nat :=
  match q with
  | .opened => 0
  | .settle => 1
  | .closing => 2
  | .dwell => 3
  | .opening => 4

/-- STATUS byte 1 (R13). -/
def statusFlags (p : Part) : Byte :=
  byteOf (bitOf p.tracker.h.isSome * 128 + bitOf p.control.fault.h.isSome * 64 + bitOf p.sampling.drift * 32 +
    bitOf p.sampling.converterFault * 16 + bitOf (p.loader.phase == .configBad) * 8 + bitOf p.control.lineStop * 4 +
    bitOf p.control.operatorHold * 2 + bitOf p.regulator.idle)

/-- The tag, or 0 for an absent one, in two bytes (R13). -/
def tagBytes (t : Option Tag) : List Byte := bytes16 (t.getD 0).toNat

/-- The alignment candidate count as STATUS shows it: the count in SEEK, else 0 (R50). -/
def shownCandidate (p : Part) : Nat :=
  if p.control.mode = .seek ∧ p.tracker.candidate.isSome then p.tracker.candidateCount else 0

/-- The skew candidate's count, 0 while it is absent (R50). -/
def shownSkewCount (p : Part) : Nat :=
  match p.tracker.skew with
  | some s => s.count
  | none => 0

/-- The skew candidate's d in 16 bits, 0 while it is absent (R50). -/
def shownSkew (p : Part) : Tag :=
  match p.tracker.skew with
  | some s => BitVec.ofInt 16 s.d
  | none => 0

/-- A byte with bit c for each lane c in use whose channel satisfies the test (R13). -/
def channelFlags (t : Channel → Bool) (p : Part) : Byte :=
  byteOfBits (fun c => decide (c < (cfg p).lanes) && t (laneChannel p c))

/-- The 23 data bytes of a STATUS reply (R13, R50). -/
def statusBytes (p : Part) : List Byte :=
  [byteOf (modeCode p.control.mode), statusFlags p, byteOf (platenCode p.sequencer.platen)] ++
    bytes16 p.control.alarms.toNat ++ tagBytes p.tracker.h ++ [byteOf p.control.fault.code] ++
    tagBytes p.control.fault.h ++ bytes32 p.control.fault.count.toNat ++
    [byteOf p.control.fault.further, byteOf (shownCandidate p), byteOf (shownSkewCount p)] ++
    bytes16 (shownSkew p).toNat ++ [channelFlags Channel.isOpen p, channelFlags Channel.overheat p] ++
    bytes16 p.regulator.scale

/-- The alarm raw flags named in a word are cleared (R170). -/
def clearFlags (flags : BitVec 16) (p : Part) : Part :=
  { p with control := { p.control with alarms := p.control.alarms &&& ~~~flags } }

/-- Under clear-on-status-read the building of a STATUS reply clears every flag it reports (R170, R190). -/
def clearOnStatus (p : Part) : Part := if clearOnStatusRead (cfg p) then clearFlags p.control.alarms p else p

/-- An accepted STATUS: the reply is built, the flags it reports are cleared, then it joins the queue (R170, R190). -/
def answerStatus (h : Header) (p : Part) : Part := reply h 1 .done (statusBytes p) (clearOnStatus p)

/-- STATUS (R190). -/
def requestStatus (h : Header) (args : List Byte) (p : Part) : Part := request h 1 0 args always (answerStatus h) p

/-! ## Counters -/

/-- The byte of wrap flags, bit c for counter c (R12, R172). -/
def wrapByte (cs : List Counter) : Byte := byteOfBits (fun c => (cs.getD c Counter.reset).wrap)

/-- Five bytes for each counter (R12). -/
def counterBytes (cs : List Counter) : List Byte := cs.flatMap (fun c => bytes40 c.value)

/-- The part with another snapshot held (R180). -/
def holdSnapshot (s : Option (List Counter)) (p : Part) : Part := { p with monitor := { p.monitor with snapshot := s } }

/-- The data of part A of a snapshot: counters 0 to 3 and the wrap flags (R12, R180). -/
def partA (cs : List Counter) : List Byte := counterBytes (cs.take 4) ++ [wrapByte cs]

/-- The data of part B of a snapshot: counters 4 to 6 and the wrap flags (R12, R180). -/
def partB (cs : List Counter) : List Byte := counterBytes (cs.drop 4) ++ [wrapByte cs]

/-- The snapshot that part B reads: the one held, else a fresh one (R180). -/
def snapshotForB (m : Monitor) : List Counter := m.snapshot.getD m.counters

/-- An accepted READ COUNTERS A: a new snapshot is taken and held (R180). -/
def answerCountersA (h : Header) (p : Part) : Part :=
  reply h 2 .done (partA p.monitor.counters) (holdSnapshot (some p.monitor.counters) p)

/-- An accepted READ COUNTERS B: the snapshot is read and released (R180). -/
def answerCountersB (h : Header) (p : Part) : Part :=
  reply h 3 .done (partB (snapshotForB p.monitor)) (holdSnapshot none p)

/-- READ COUNTERS A (R180). -/
def requestCountersA (h : Header) (args : List Byte) (p : Part) : Part :=
  request h 2 0 args outsideStart (answerCountersA h) p

/-- READ COUNTERS B (R180). -/
def requestCountersB (h : Header) (args : List Byte) (p : Part) : Part :=
  request h 3 0 args outsideStart (answerCountersB h) p

/-- The named counter's controls are written, its edge memory with them (R173, R177). -/
def writeControl (i : Nat) (t : Control) (p : Part) : Part :=
  { p with monitor := { p.monitor with controls := updateAt p.monitor.controls i (fun _ => t) } }

/-- An accepted SET COUNTER: the controls as clamped, returned as taken (R12, R173). -/
def answerSetCounter (h : Header) (args : List Byte) (p : Part) : Part :=
  reply h 4 .done (controlBytes (readControl args).1 (readControl args).2)
    (writeControl (readControl args).1 (readControl args).2 p)

/-- SET COUNTER (R173). -/
def requestSetCounter (h : Header) (args : List Byte) (p : Part) : Part :=
  request h 4 6 args outsideStart (answerSetCounter h args) p

/-- The frozen flag with its cause (R179). -/
def setFrozen (f : Option FreezeCause) (p : Part) : Part := { p with monitor := { p.monitor with frozen := f } }

/-- FREEZE: frozen with cause REQUEST, whatever the flag held (R179). -/
def requestFreeze (h : Header) (args : List Byte) (p : Part) : Part :=
  request h 5 0 args outsideStart (fun p => reply h 5 .done [] (setFrozen (some .request) p)) p

/-- THAW: not frozen, whatever the flag held (R179). -/
def requestThaw (h : Header) (args : List Byte) (p : Part) : Part :=
  request h 6 0 args outsideStart (fun p => reply h 6 .done [] (setFrozen none p)) p

/-- All seven counters 0 and all wrap flags clear, frozen or not (R181). -/
def zeroCounters (p : Part) : Part :=
  { p with monitor := { p.monitor with counters := p.monitor.counters.map (fun _ => Counter.reset) } }

/-- CLEAR COUNTERS (R181). -/
def requestClearCounters (h : Header) (args : List Byte) (p : Part) : Part :=
  request h 7 0 args outsideStart (fun p => reply h 7 .done [] (zeroCounters p)) p

/-! ## The dwell log -/

/-- The flags byte of an entry (R15). -/
def entryFlags (e : LogEntry) : Byte :=
  byteOf (bitOf e.dry * 16 + bitOf e.aborted * 8 + bitOf e.forced * 4 + bitOf e.chatter * 2 + bitOf e.drift)

/-- The three bytes of lane c of an entry; a lane at or beyond n reads dose 0 and lift sample 255 (R15, R185). -/
def entryLane (n : Nat) (e : LogEntry) (c : Nat) : List Byte :=
  let l := if c < n then e.lanes.getD c { dose := 0, lift := 255 } else { dose := 0, lift := 255 }
  bytes16 l.dose ++ [byteOf l.lift]

/-- The 23 data bytes of READ LOG A for the oldest entry (R15, R185). -/
def logBytesA (n entries overflow : Nat) (e : LogEntry) : List Byte :=
  byteOf entries :: bytes16 e.tag.toNat ++ bytes16 e.samples ++ [byteOf e.lost] ++ bytes16 e.scale ++ [entryFlags e] ++
    (List.range 4).flatMap (entryLane n e) ++ bytes16 overflow

/-- The 15 data bytes of READ LOG B for the oldest entry; the count is that left after its removal (R15, R186). -/
def logBytesB (n left : Nat) (e : LogEntry) : List Byte :=
  byteOf left :: bytes16 e.tag.toNat ++ (List.range 4).flatMap (fun c => entryLane n e (c + 4))

/-- An accepted READ LOG A (R185). -/
def answerLogA (h : Header) (p : Part) : Part :=
  match p.log.entries with
  | [] => reply h 8 .empty [0] p
  | e :: _ => reply h 8 .done (logBytesA (cfg p).lanes p.log.entries.length p.log.overflow e) p

/-- The oldest entry leaves the log (R186). -/
def dropOldest (p : Part) : Part := { p with log := { p.log with entries := p.log.entries.drop 1 } }

/-- An accepted READ LOG B (R186). -/
def answerLogB (h : Header) (p : Part) : Part :=
  match p.log.entries with
  | [] => reply h 9 .empty [0] p
  | e :: es => reply h 9 .done (logBytesB (cfg p).lanes es.length e) (dropOldest p)

/-- READ LOG A (R185). -/
def requestLogA (h : Header) (args : List Byte) (p : Part) : Part := request h 8 0 args outsideStart (answerLogA h) p

/-- READ LOG B (R186). -/
def requestLogB (h : Header) (args : List Byte) (p : Part) : Part := request h 9 0 args outsideStart (answerLogB h) p

/-! ## READ ROW -/

/-- The code of a formed field, 0 for absent (R14). -/
def formedCode (f : Option Formed) : Nat :=
  match f with
  | none => 0
  | some .good => 1
  | some .bad => 2

/-- The code of a load field, 0 for absent (R14). -/
def loadCode (l : Option Load) : Nat :=
  match l with
  | none => 0
  | some .good => 1
  | some .short => 2
  | some .over => 3
  | some .empty => 4

/-- The code of a card field, 0 for absent (R14). -/
def cardCode (c : Option Card) : Nat :=
  match c with
  | none => 0
  | some .placed => 1
  | some .missing => 2
  | some .skewed => 3

/-- The code of a plan (R14). -/
def planCode (p : Plan) : Nat :=
  match p with
  | .notSet => 0
  | .press => 1
  | .notPressed => 2
  | .holdOff => 3

/-- The four bytes of contribution slot s, 0 beyond the count (R14). -/
def slotBytes (xs : List Contribution) (s : Nat) : List Byte :=
  match xs[s]? with
  | some x => byteOf x.stage :: bytes16 x.dose ++ [byteOf (verdictCode x.verdict * 16 + reasonCode x.reason)]
  | none => [0, 0, 0, 0]

/-- READ ROW byte 2 (R14). -/
def rowFlags (r : RowRecord) : Byte :=
  byteOf (bitOf r.frozen * 128 + bitOf r.concluded * 64 +
    ((List.range 4).map (fun i => bitOf (r.upstreamVoided.contains (i + 1)) * 2 ^ i)).sum)

/-- READ ROW byte 4 (R14). -/
def statementByte (e : LaneEntry) : Byte := byteOf (formedCode e.formed * 64 + loadCode e.load * 8 + cardCode e.card * 2)

/-- READ ROW byte 11 (R14). -/
def laneFlagByte (e : LaneEntry) : Byte :=
  byteOf (bitOf e.assumed * 32 + bitOf e.voided * 16 + bitOf e.sensor * 8 + bitOf e.drift * 4 + bitOf e.noContact * 2 +
    bitOf e.forced)

/-- The 25 data bytes of a READ ROW reply (R14, R71). -/
def rowBytes (r : RowRecord) (lane : Nat) (e : LaneEntry) : List Byte :=
  bytes16 r.tag.toNat ++
    [rowFlags r, byteOf lane, statementByte e, byteOf (planCode e.plan * 16 + reasonCode e.planReason)] ++
    bytes16 e.aim ++ bytes16 e.ownDose ++
    [byteOf (verdictCode e.verdict * 16 + reasonCode e.reason), laneFlagByte e, byteOf e.contributions.length] ++
    (List.range 3).flatMap (slotBytes e.contributions)

/-- The record and lane entry that a READ ROW names: none with H absent, a tag outside the window, or a lane at or beyond n
(R70). -/
def namedLane (p : Part) (args : List Byte) : Option (RowRecord × LaneEntry) :=
  match p.tracker.h with
  | none => none
  | some h =>
    if inWindow h (tagAt args 0) && decide (byteAt args 2 < (cfg p).lanes) then
      match recordOf p (tagAt args 0) with
      | none => none
      | some r => (r.lanes[byteAt args 2]?).map (fun e => (r, e))
    else none

/-- A READ ROW that passed the tests before its argument values (R70, R188). -/
def answerRow (h : Header) (args : List Byte) (p : Part) : Part :=
  match namedLane p args with
  | none => reply h 10 .bad [] p
  | some (r, e) => reply h 10 .done (rowBytes r (byteAt args 2) e) p

/-- READ ROW (R70). -/
def requestRow (h : Header) (args : List Byte) (p : Part) : Part := request h 10 3 args outsideStart (answerRow h args) p

/-! ## READ CONFIG -/

/-- The block bytes that READ CONFIG returns: of the configuration in force, else as read, else zeros (R16, R190). -/
def shownBlock (p : Part) : List Byte :=
  match p.loader.config with
  | some c => blockBytes c
  | none => p.loader.block.getD (List.replicate blockLength 0)

/-- A READ CONFIG that passed the tests before its argument value (R12, R188, R190). -/
def answerConfig (h : Header) (args : List Byte) (p : Part) : Part :=
  if 3 < byteAt args 0 then reply h 11 .bad [] p
  else reply h 11 .done (args.getD 0 0 :: ((shownBlock p).drop (24 * byteAt args 0)).take 24) p

/-- READ CONFIG (R190). -/
def requestConfig (h : Header) (args : List Byte) (p : Part) : Part := request h 11 1 args always (answerConfig h args) p

/-! ## Alarms and the mode -/

/-- Clearing STATION_CLASH sets the clash count to 0 (R18, R170; log 36). -/
def clearClash (flags : BitVec 16) (p : Part) : Part :=
  if flags.getLsbD (alarmBit .stationClash) then { p with port := { p.port with clashCount := 0 } } else p

/-- The flags that a CLEAR ALARMS names. -/
def namedFlags (args : List Byte) : BitVec 16 := BitVec.ofNat 16 (fieldAt args 0)

/-- An accepted CLEAR ALARMS: the named flags are cleared and the flags then standing returned (R12, R170). -/
def answerClearAlarms (h : Header) (args : List Byte) (p : Part) : Part :=
  let p := clearFlags (namedFlags args) (clearClash (namedFlags args) p)
  reply h 12 .done (bytes16 p.control.alarms.toNat) p

/-- CLEAR ALARMS (R170). -/
def requestClearAlarms (h : Header) (args : List Byte) (p : Part) : Part :=
  request h 12 2 args outsideStart (answerClearAlarms h args) p

/-- The flush and the UNDER count of RESYNC and CLEAR FAULT, and the entry to SEEK (R47, R163, R166). -/
def flushToSeek (cause : VoidCause) (p : Part) : Part :=
  let p := flush cause p
  setMode .seek { p with dose := { p.dose with underCount := 0 } }

/-- CLEAR FAULT is accepted (R166). -/
def clearFaultAccepted (p : Part) : Bool :=
  p.control.mode == .fault && p.pins.openSensor && !p.sampling.converterFault

/-- The steps of an accepted CLEAR FAULT (R166). -/
def clearFaultSteps (p : Part) : Part :=
  flushToSeek .faultClear
    { p with
      control := { p.control with fault := FaultRecord.cleared },
      sequencer := { p.sequencer with closeTimeouts := 0 } }

/-- CLEAR FAULT (R166); its VOID NOTICE joins the queue before its reply. -/
def requestClearFault (h : Header) (args : List Byte) (p : Part) : Part :=
  request h 13 0 args clearFaultAccepted (fun p => reply h 13 .done [] (clearFaultSteps p)) p

/-- The operator-hold flag (R161). -/
def setOperatorHold (b : Bool) (p : Part) : Part := { p with control := { p.control with operatorHold := b } }

/-- HOLD (R161): the flag is set, RUN enters HOLD. -/
def requestHold (h : Header) (args : List Byte) (p : Part) : Part :=
  request h 14 0 args outsideStart (fun p => reply h 14 .done [] (runToHold (setOperatorHold true p))) p

/-- RELEASE (R161): the flag is cleared, HOLD with no flag left enters RUN. -/
def requestRelease (h : Header) (args : List Byte) (p : Part) : Part :=
  request h 15 0 args outsideStart (fun p => reply h 15 .done [] (holdToRun (setOperatorHold false p))) p

/-- RESYNC is accepted (R163). -/
def resyncAccepted (p : Part) : Bool :=
  (p.control.mode == .run || p.control.mode == .hold) && p.sequencer.platen == .opened

/-- RESYNC (R163); its VOID NOTICE joins the queue before its reply. -/
def requestResync (h : Header) (args : List Byte) (p : Part) : Part :=
  request h 16 0 args resyncAccepted (fun p => reply h 16 .done [] (flushToSeek .resync p)) p

/-- REF CHECK is accepted (R90). -/
def refCheckAccepted (p : Part) : Bool :=
  (p.control.mode == .seek || p.control.mode == .hold) && p.sequencer.platen == .opened && p.sampling.check.isNone

/-- An accepted REF CHECK: the check starts and its reply waits for its end (R90, R191). -/
def answerRefCheck (h : Header) (p : Part) : Part :=
  startCheck { p with responder := { p.responder with pendingCheck := some h.station } }

/-- REF CHECK (R90). -/
def requestRefCheck (h : Header) (args : List Byte) (p : Part) : Part :=
  request h 17 0 args refCheckAccepted (answerRefCheck h) p

/-- DRY START is accepted (R162). -/
def dryStartAccepted (p : Part) : Bool :=
  p.control.mode == .hold && p.control.lineStop && p.sequencer.platen == .opened

/-- DRY START: DRY is entered and the first dry cycle begins (R128, R162). -/
def requestDryStart (h : Header) (args : List Byte) (p : Part) : Part :=
  request h 18 0 args dryStartAccepted (fun p => reply h 18 .done [] (beginDry (setMode .dry p))) p

/-- DRY STOP is accepted (R130). -/
def dryStopAccepted (p : Part) : Bool := p.control.mode == .dry

/-- DRY STOP: the dry cycle is aborted (R130). -/
def requestDryStop (h : Header) (args : List Byte) (p : Part) : Part :=
  request h 19 0 args dryStopAccepted (fun p => reply h 19 .done [] (abortDry false p)) p

/-- An accepted RESTART: its reply joins the queue and the restart waits for that of the first RESTART (R192). -/
def answerRestart (h : Header) (p : Part) : Part :=
  let f := { buildFrame (.serviceReply h.station 20 .done []) p with restartReply := !p.responder.pendingRestart }
  join f { p with responder := { p.responder with pendingRestart := true } }

/-- RESTART (R192). -/
def requestRestart (h : Header) (args : List Byte) (p : Part) : Part :=
  request h 20 0 args outsideStart (answerRestart h) p

/-! ## Every request -/

/-- A request by its code; 0 and codes above 20 are answered BAD (R188). -/
def takeRequest (code : Byte) (h : Header) (args : List Byte) (p : Part) : Part :=
  match code.toNat with
  | 1 => requestStatus h args p
  | 2 => requestCountersA h args p
  | 3 => requestCountersB h args p
  | 4 => requestSetCounter h args p
  | 5 => requestFreeze h args p
  | 6 => requestThaw h args p
  | 7 => requestClearCounters h args p
  | 8 => requestLogA h args p
  | 9 => requestLogB h args p
  | 10 => requestRow h args p
  | 11 => requestConfig h args p
  | 12 => requestClearAlarms h args p
  | 13 => requestClearFault h args p
  | 14 => requestHold h args p
  | 15 => requestRelease h args p
  | 16 => requestResync h args p
  | 17 => requestRefCheck h args p
  | 18 => requestDryStart h args p
  | 19 => requestDryStop h args p
  | 20 => requestRestart h args p
  | _ => reply h code .bad [] p

end Sys2Proof.Machine
end

