-- ==== Sys2Proof/Machine/Reception.lean ====
section
/-! DEFINITION. The line port's receiving side: arrival, evidence and dispatch of a frame (R23 to R25), frames dropped, start marks
refused, quiet, arbitration and clash (R1, R2, R17, R18). -/

namespace Sys2Proof.Machine

/-! ## LINE STATE -/

/-- A LINE STATE STOP reaches the mode controller (R159). -/
def takeStop (p : Part) : Part := stopToHold (setLineStop p)

/-- A LINE STATE RUN reaches the mode controller (R159): a dry cycle is aborted; with the stop input inactive the flag is cleared
and HOLD may enter RUN. -/
def takeRun (p : Part) : Part :=
  let p := if p.control.mode = .dry then abortDry false p else p
  if p.pins.stopInput then p else holdToRun (clearLineStop p)

/-- A LINE STATE by its payload: malformed, it is counted ODD_CODE (R10, R159). -/
def takeLineState (payload : List Byte) (p : Part) : Part :=
  match readLineState payload with
  | none => count .oddCode p
  | some true => takeRun p
  | some false => takeStop p

/-! ## SERVICE REQUEST -/

/-- A SERVICE REQUEST by its payload: without a request it is malformed; for another target, or while no station number is held, it
is passed over (R11, R25, R26). -/
def takeServiceRequest (h : Header) (payload : List Byte) (p : Part) : Part :=
  match payload with
  | target :: code :: args =>
    match ownStation p with
    | some own => if target.toNat = own.toNat then takeRequest code h args p else p
    | none => p
  | _ => count .oddCode p

/-- A request that is addressed to this station, with its code and arguments already taken from the payload (R11). -/
def addressed (f : Part → Part) (p : Part) : Part := if (ownStation p).isSome then f p else p

/-! ## Dispatch -/

/-- Step 2 of dispatch: the payload goes by kind (R25). -/
def dispatch (kind : Nat) (h : Header) (payload : List Byte) (p : Part) : Part :=
  match kind with
  | 2 => takeLineState payload p
  | 4 => takeRowVerdict h payload p
  | 6 => takeSealReport h payload p
  | 7 => takeVoidNotice h payload p
  | 10 => takeDrawNotice h payload p
  | 20 => takeServiceRequest h payload p
  | 21 => p
  | _ => count .oddCode p

/-- Evidence in SEEK (R39, R41): the candidate is counted, and at N alignment is achieved. -/
def takeCandidate (i : Tag) (p : Part) : Part :=
  let p := { p with tracker := nextCandidate p.tracker i }
  if (cfg p).evidence ≤ p.tracker.candidateCount then enterAligned (alignAt i p) else p

/-- Step 1 of dispatch: a frame with a sender position is evidence (R25, R33, R39, R42, R49). -/
def takeEvidence (h : Header) (p : Part) : Part :=
  if h.position = 255 then p
  else
    let p := { p with tracker := { p.tracker with quietCount := 0 } }
    match p.tracker.h with
    | some head => takeSkew head (tagDiff head (impliedHead (cfg p) h)) p
    | none => if p.control.mode = .seek then takeCandidate (impliedHead (cfg p) h) p else p

/-- A frame of another node is read: the line is not quiet (R1), and nothing else is being taken in. -/
def lineBusy (p : Part) : Part := { p with port := { p.port with quiet := false, receiving := false } }

/-- What was being taken in has ended. -/
def endReception (p : Part) : Part := { p with port := { p.port with receiving := false } }

/-- The port takes in the frame on the line (R18, R23). -/
def startReception (p : Part) : Part := { p with port := { p.port with receiving := true } }

/-- The receiver waits for the line to go quiet (R2, R26). -/
def awaitQuiet (p : Part) : Part := { p with port := { p.port with waitQuiet := true } }

/-- A frame whose check agrees arrives (R23, R24, R25), with the handling of its payload: sender station 0 drops it, own station
raises STATION_CLASH, any other is counted and goes on to evidence and payload. -/
def receive (h : Header) (handle : Part → Part) (p : Part) : Part :=
  if h.station = 0 then count .frameBadCheck p
  else if ownStation p = some h.station then raise .stationClash p
  else handle (takeEvidence h (count .frameReceived p))

/-- The port takes in frames: the straps have been sampled, and the receiver is not waiting for quiet (R2, R26). -/
def listening (p : Part) : Bool := !(p.loader.phase == .off) && !p.port.waitQuiet

/-- A frame comes in on the line (R23 to R26; log 9, 10, 11). -/
def arrival (h : Header) (handle : Part → Part) (p : Part) : Part :=
  if listening p then receive h handle (lineBusy p) else p

/-! ## Broken frames and start marks -/

/-- What the bits after an accepted start mark bring about (R3, R5, R23): after broken stuffing and after a length above 32 the
receiver waits for quiet. Bits that spell a whole frame arrive as it. -/
def takeBits (r : Reception) (p : Part) : Part :=
  match r with
  | .whole f => receive f.header (dispatch f.kind.toNat f.header f.payload) p
  | .bad .checkDisagrees => count .frameBadCheck p
  | .bad .earlyQuiet => count .frameBadCheck p
  | .bad .brokenStuffing => count .frameBadCheck (awaitQuiet p)
  | .bad .tooLong => count .frameBadCheck (awaitQuiet p)

/-- The bits after an accepted start mark come in (R23); a frame that the quiet line cut short leaves the line as declared (R1). -/
def arrivalOfBits (bits : List Bool) (p : Part) : Part :=
  if listening p then takeBits (receiveBits bits) (if receiveBits bits = .bad .earlyQuiet then endReception p else lineBusy p) else p

/-- Another node's start mark is read: its first bit ends the quiet, so that the port begins nothing until the next (R1, R2, R17).
Refused, the receiver counts nothing and waits for quiet; accepted, the frame that it begins is taken in until the command of its
arrival (DESIGN CHOICE of the command, safe, log 9). A frame that begins before the straps are sampled is not taken in (R26; DEDUCED
for the wait, safe, log 52). -/
def takeMark (mark : Byte) (p : Part) : Part :=
  if listening p then
    let p := lineBusy p
    if markAccepted (markTolerance (cfg p)) mark then startReception p else awaitQuiet p
  else if p.loader.phase = .off then awaitQuiet p
  else p

/-- A whole frame from own station number arrives (R24); while no station number is held none can. -/
def takeOwnFrame (p : Part) : Part :=
  if listening p then
    let p := lineBusy p
    if (ownStation p).isSome then raise .stationClash p else p
  else p

/-! ## Quiet, arbitration and clash -/

/-- The line is declared quiet (R1, R17): a receiver that waited is ready, and a transmission may begin. While the port itself
sends, the line is not quiet. Before the straps are sampled it only ends the wait (log 52). -/
def declareQuiet (p : Part) : Part :=
  if p.loader.phase = .off then { p with port := { p.port with waitQuiet := false } }
  else tryBegin { p with port := { p.port with quiet := !transmitting p, waitQuiet := false, receiving := false } }

/-- A mismatch at a bit of the frame in transmission that loses arbitration: the port becomes a receiver of the frame that won (R18). -/
def loseArbitration (bit : Nat) (p : Part) : Part :=
  match ownStation p, sendingFrame p with
  | some own, some f => if arbitrationAt own f bit then count .arbLost (startReception (endUnsent p)) else p
  | _, _ => p

/-- A clash is counted; from the third on STATION_CLASH is raised (R18). -/
def countClash (p : Part) : Part :=
  let n := min 255 (p.port.clashCount + 1)
  raiseIf (decide (3 ≤ n)) .stationClash { p with port := { p.port with clashCount := n, waitQuiet := true } }

/-- A mismatch at a bit of the frame in transmission that is a clash (R18). -/
def meetClash (bit : Nat) (p : Part) : Part :=
  match ownStation p, sendingFrame p with
  | some own, some f => if clashAt own f bit then countClash (endUnsent p) else p
  | _, _ => p

end Sys2Proof.Machine
end

