-- ==== Sys2Proof/Machine/StartUp.lean ====
section
/-! DEFINITION. Meanings of the start-up commands (R194 to R200). -/

namespace Sys2Proof.Machine

open Host (Outcome)

/-- POWER_ON: every block at its value after POWER-ON, and the start sequence begins (R182, R187, R194). -/
def execPowerOn (s : State) : Outcome State Fault Refusal := runDue powerPart s

/-- RESET_INPUT: the part is held in its reset state (R194). -/
def execResetInput (s : State) : Outcome State Fault Refusal := run holdReset s

/-- RESET_RELEASE: the start sequence begins with the straps and the crystal (R194 to R196). -/
def execResetRelease (s : State) : Outcome State Fault Refusal := run releaseReset s

/-- CRYSTAL_RUNNING: the clock is the crystal (R196). -/
def execCrystalRunning (s : State) : Outcome State Fault Refusal := run crystalRuns s

/-- CRYSTAL_WAIT_EXPIRY: the clock stays the internal oscillator, CLOCK_FALLBACK is raised (R196). -/
def execCrystalWaitExpiry (s : State) : Outcome State Fault Refusal := run crystalFails s

/-- CONFIG_BLOCK_READ: the block is checked, clamped and tested, and put in force or left (R197 to R200). -/
def execConfigBlockRead (m : MemoryRead) (s : State) : Outcome State Fault Refusal := run (loadBlock m) s

/-- START_OPEN_TIMEOUT: a start fault of code 5 (R200). -/
def execStartOpenTimeout (s : State) : Outcome State Fault Refusal := run timeOutStart s

/-- STRAP_CHANGE: the pins change; they are sampled at the next start (R195). -/
def execStrapChange (straps : BitVec 5) (s : State) : Outcome State Fault Refusal := run (setStraps straps) s

end Sys2Proof.Machine
end

