-- ==== Sys2Proof/Machine/Line.lean ====
section
/-! DEFINITION. Meanings of the row line commands, sending and receiving (R1 to R25). -/

namespace Sys2Proof.Machine

open Host (Outcome)

/-- QUIET_DECLARATION: the line is quiet and a transmission may begin (R1, R17). -/
def execQuietDeclaration (s : State) : Outcome State Fault Refusal := run declareQuiet s

/-- FRAME_SENT: the frame in transmission leaves the queue, sent (R19). -/
def execFrameSent (s : State) : Outcome State Fault Refusal := run endSent s

/-- ARB_LOST: the frame in transmission loses arbitration and keeps its place (R18). -/
def execArbLost (bit : Nat) (s : State) : Outcome State Fault Refusal := run (loseArbitration bit) s

/-- CLASH: the frame in transmission is abandoned, the clash count rises (R18). -/
def execClash (bit : Nat) (s : State) : Outcome State Fault Refusal := run (meetClash bit) s

/-- SERVICE_REPLY_EXPIRY: the oldest reply's 500 ms have passed (R21; log 27). -/
def execServiceReplyExpiry (s : State) : Outcome State Fault Refusal := run expireReply s

/-- FRAME_BAD_CHECK: a frame is dropped at its check, its stuffing, its length or an early quiet (R23). -/
def execFrameBadCheck (bits : List Bool) (s : State) : Outcome State Fault Refusal := run (arrivalOfBits bits) s

/-- OWN_STATION_FRAME: STATION_CLASH is raised (R24). -/
def execOwnStationFrame (s : State) : Outcome State Fault Refusal := run takeOwnFrame s

/-- ROW_VERDICT (R25, R57, R58). -/
def execRowVerdict (h : Header) (payload : List Byte) (s : State) : Outcome State Fault Refusal :=
  run (arrival h (dispatch 4 h payload)) s

/-- SEAL_REPORT (R25, R59, R60). -/
def execSealReport (h : Header) (payload : List Byte) (s : State) : Outcome State Fault Refusal :=
  run (arrival h (dispatch 6 h payload)) s

/-- VOID_NOTICE (R25, R61, R62). -/
def execVoidNotice (h : Header) (payload : List Byte) (s : State) : Outcome State Fault Refusal :=
  run (arrival h (dispatch 7 h payload)) s

/-- DRAW_NOTICE (R25, R103). -/
def execDrawNotice (h : Header) (payload : List Byte) (s : State) : Outcome State Fault Refusal :=
  run (arrival h (dispatch 10 h payload)) s

/-- LINE_STATE_STOP (R25, R159); the state byte of the payload decides (log 30). -/
def execLineStateStop (h : Header) (payload : List Byte) (s : State) : Outcome State Fault Refusal :=
  run (arrival h (takeLineState payload)) s

/-- LINE_STATE_RUN (R25, R159); the state byte of the payload decides (log 30). -/
def execLineStateRun (h : Header) (payload : List Byte) (s : State) : Outcome State Fault Refusal :=
  run (arrival h (dispatch 2 h payload)) s

/-- SERVICE_REPLY: evidence, its payload passed over (R25). -/
def execServiceReply (h : Header) (payload : List Byte) (s : State) : Outcome State Fault Refusal :=
  run (arrival h (dispatch 21 h payload)) s

/-- UNKNOWN_KIND: evidence, counted ODD_CODE (R25); the kind code decides (log 30). -/
def execUnknownKind (kind : BitVec 5) (h : Header) (payload : List Byte) (s : State) : Outcome State Fault Refusal :=
  run (arrival h (dispatch kind.toNat h payload)) s

/-- SERVICE_REQUEST_NOT_ADDRESSED: evidence, passed over (R25); the target decides (log 30). -/
def execServiceRequestNotAddressed (h : Header) (payload : List Byte) (s : State) : Outcome State Fault Refusal :=
  run (arrival h (dispatch 20 h payload)) s

/-- START_MARK_REFUSED: nothing is counted, the receiver waits for quiet (R2). -/
def execStartMarkRefused (mark : Byte) (s : State) : Outcome State Fault Refusal := run (takeMark mark) s

end Sys2Proof.Machine
end

