-- ==== Sys2Proof/Machine/Service.lean ====
section
/-! DEFINITION. Meanings of the service requests addressed to this station (R188 to R192). -/

namespace Sys2Proof.Machine

open Host (Outcome)

/-- UNKNOWN_REQUEST: answered BAD (R188); the code decides (log 30). -/
def execUnknownRequest (code : Byte) (h : Header) (args : List Byte) (s : State) : Outcome State Fault Refusal :=
  run (arrival h (addressed (takeRequest code h args))) s

/-- STATUS (R190). -/
def execStatus (h : Header) (args : List Byte) (s : State) : Outcome State Fault Refusal :=
  run (arrival h (addressed (requestStatus h args))) s

/-- READ_COUNTERS_A (R180). -/
def execReadCountersA (h : Header) (args : List Byte) (s : State) : Outcome State Fault Refusal :=
  run (arrival h (addressed (requestCountersA h args))) s

/-- READ_COUNTERS_B (R180). -/
def execReadCountersB (h : Header) (args : List Byte) (s : State) : Outcome State Fault Refusal :=
  run (arrival h (addressed (requestCountersB h args))) s

/-- SET_COUNTER (R173). -/
def execSetCounter (h : Header) (args : List Byte) (s : State) : Outcome State Fault Refusal :=
  run (arrival h (addressed (requestSetCounter h args))) s

/-- FREEZE (R179). -/
def execFreeze (h : Header) (args : List Byte) (s : State) : Outcome State Fault Refusal :=
  run (arrival h (addressed (requestFreeze h args))) s

/-- THAW (R179). -/
def execThaw (h : Header) (args : List Byte) (s : State) : Outcome State Fault Refusal :=
  run (arrival h (addressed (requestThaw h args))) s

/-- CLEAR_COUNTERS (R181). -/
def execClearCounters (h : Header) (args : List Byte) (s : State) : Outcome State Fault Refusal :=
  run (arrival h (addressed (requestClearCounters h args))) s

/-- READ_LOG_A (R185). -/
def execReadLogA (h : Header) (args : List Byte) (s : State) : Outcome State Fault Refusal :=
  run (arrival h (addressed (requestLogA h args))) s

/-- READ_LOG_B (R186). -/
def execReadLogB (h : Header) (args : List Byte) (s : State) : Outcome State Fault Refusal :=
  run (arrival h (addressed (requestLogB h args))) s

/-- READ_ROW (R70). -/
def execReadRow (h : Header) (args : List Byte) (s : State) : Outcome State Fault Refusal :=
  run (arrival h (addressed (requestRow h args))) s

/-- READ_CONFIG (R190). -/
def execReadConfig (h : Header) (args : List Byte) (s : State) : Outcome State Fault Refusal :=
  run (arrival h (addressed (requestConfig h args))) s

/-- CLEAR_ALARMS (R170). -/
def execClearAlarms (h : Header) (args : List Byte) (s : State) : Outcome State Fault Refusal :=
  run (arrival h (addressed (requestClearAlarms h args))) s

/-- CLEAR_FAULT (R166). -/
def execClearFault (h : Header) (args : List Byte) (s : State) : Outcome State Fault Refusal :=
  run (arrival h (addressed (requestClearFault h args))) s

/-- HOLD (R161). -/
def execHold (h : Header) (args : List Byte) (s : State) : Outcome State Fault Refusal :=
  run (arrival h (addressed (requestHold h args))) s

/-- RELEASE (R161). -/
def execRelease (h : Header) (args : List Byte) (s : State) : Outcome State Fault Refusal :=
  run (arrival h (addressed (requestRelease h args))) s

/-- RESYNC (R163). -/
def execResync (h : Header) (args : List Byte) (s : State) : Outcome State Fault Refusal :=
  run (arrival h (addressed (requestResync h args))) s

/-- REF_CHECK (R90, R191). -/
def execRefCheck (h : Header) (args : List Byte) (s : State) : Outcome State Fault Refusal :=
  run (arrival h (addressed (requestRefCheck h args))) s

/-- DRY_START (R128, R162). -/
def execDryStart (h : Header) (args : List Byte) (s : State) : Outcome State Fault Refusal :=
  run (arrival h (addressed (requestDryStart h args))) s

/-- DRY_STOP (R130). -/
def execDryStop (h : Header) (args : List Byte) (s : State) : Outcome State Fault Refusal :=
  run (arrival h (addressed (requestDryStop h args))) s

/-- RESTART (R192). -/
def execRestart (h : Header) (args : List Byte) (s : State) : Outcome State Fault Refusal :=
  run (arrival h (addressed (requestRestart h args))) s

end Sys2Proof.Machine
end

