-- ==== Sys2Proof/Machine/Station.lean ====
section
/-! DEFINITION. Meanings of the index, platen, pin, tick and timer commands (R28, R73, R99, R112 to R130, R160). -/

namespace Sys2Proof.Machine

open Host (Outcome)

/-- INDEX_EDGE: ignored, chatter, or an accepted index (R27, R28, R36). -/
def execIndexEdge (now : Nat) (s : State) : Outcome State Fault Refusal := run (takeEdge now) s

/-- SETTLE_END: the plan is frozen, and the close commanded or the row concluded (R115, R129). -/
def execSettleEnd (s : State) : Outcome State Fault Refusal := run endSettle s

/-- SAMPLE_TICK: one tick, while a configuration is in force (R73). -/
def execSampleTick (conv : Conversions) (s : State) : Outcome State Fault Refusal := run (takeTick conv) s

/-- OPEN_RECOVERY: the sixteenth clean tick of an OPEN channel (R81; log 3). -/
def execOpenRecovery (channel : Nat) (conv : List Conversion) (s : State) : Outcome State Fault Refusal :=
  run (recover channel conv) s

/-- LAG_END: the lane's contact ends with its lag (R141). -/
def execLagEnd (lane : Nat) (s : State) : Outcome State Fault Refusal := runDue (endLag lane) s

/-- DWELL_LIMIT: the dwell ends at Nmax (R143). -/
def execDwellLimit (s : State) : Outcome State Fault Refusal := runDue endAtLimit s

/-- DRY_LIFT_COMMAND: the lane's lift is commanded at its sample of a dry dwell (R129). -/
def execDryLiftCommand (lane : Nat) (s : State) : Outcome State Fault Refusal := runDue (dryLift lane) s

/-- DRY_DWELL_END: the dry dwell ends at sample Nconf (R129). -/
def execDryDwellEnd (s : State) : Outcome State Fault Refusal := runDue endDryDwell s

/-- CLOSE_TIMEOUT (R120, R121). -/
def execCloseTimeout (s : State) : Outcome State Fault Refusal := run timeOutClose s

/-- OPEN_TIMEOUT (R123). -/
def execOpenTimeout (s : State) : Outcome State Fault Refusal := run timeOutOpen s

/-- OPEN_SENSOR_ACTIVE: in OPENING the platen enters OPEN (R122, R124). -/
def execOpenSensorActive (s : State) : Outcome State Fault Refusal := run (setOpenSensor true) s

/-- OPEN_SENSOR_INACTIVE: PERMIT follows (R124, R127). -/
def execOpenSensorInactive (s : State) : Outcome State Fault Refusal := run (setOpenSensor false) s

/-- CLOSED_SENSOR_CHANGE: read by the contact test of the next tick (R117, R127). -/
def execClosedSensorChange (active : Bool) (s : State) : Outcome State Fault Refusal := run (setClosedSensor active) s

/-- STOP_INPUT_ACTIVATION (R160). -/
def execStopInputActivation (s : State) : Outcome State Fault Refusal := run stopInputOn s

/-- STOP_INPUT_RELEASE: the next LINE STATE RUN may clear the flag (R160). -/
def execStopInputRelease (s : State) : Outcome State Fault Refusal := run stopInputOff s

/-- DRY_PERIOD_EXPIRY: a dry cycle begins or is held due (R128). -/
def execDryPeriodExpiry (s : State) : Outcome State Fault Refusal := run expireDryPeriod s

/-- REF_CHECK_END (R86 to R91, R200). -/
def execRefCheckEnd (s : State) : Outcome State Fault Refusal := runDue endDueCheck s

/-- REGULATION_PERIOD_END: duties and outputs of the next period (R99); at a fourth end the budget steps too (log 39). -/
def execRegulationPeriodEnd (s : State) : Outcome State Fault Refusal := runDue endDuePeriod s

/-- BUDGET_PERIOD_END: the fourth regulation period end (R93, R99). -/
def execBudgetPeriodEnd (s : State) : Outcome State Fault Refusal := runDue endDueBudget s

/-- HEATER_ON_TIME_END: the lane's output goes off (R100). -/
def execHeaterOnTimeEnd (lane : Nat) (s : State) : Outcome State Fault Refusal := runDue (endHeater lane) s

/-- IDLE_TIMEOUT: the idle flag is set (R95). -/
def execIdleTimeout (s : State) : Outcome State Fault Refusal := runDue endIdle s

end Sys2Proof.Machine
end

