-- ==== Sys2Proof/Machine/Dispatch.lean ====
section
/-! DEFINITION. The meaning of every command: one arm per constructor of Instr. -/

namespace Sys2Proof.Machine

def exec (i : Instr) (s : State) : Host.Outcome State Fault Refusal :=
  match i with
  | .powerOn => Sys2Proof.Machine.execPowerOn s
  | .resetInput => Sys2Proof.Machine.execResetInput s
  | .resetRelease => Sys2Proof.Machine.execResetRelease s
  | .crystalRunning => Sys2Proof.Machine.execCrystalRunning s
  | .crystalWaitExpiry => Sys2Proof.Machine.execCrystalWaitExpiry s
  | .configBlockRead read => Sys2Proof.Machine.execConfigBlockRead read s
  | .startOpenTimeout => Sys2Proof.Machine.execStartOpenTimeout s
  | .strapChange straps => Sys2Proof.Machine.execStrapChange straps s
  | .quietDeclaration => Sys2Proof.Machine.execQuietDeclaration s
  | .frameSent => Sys2Proof.Machine.execFrameSent s
  | .arbLost bit => Sys2Proof.Machine.execArbLost bit s
  | .clash bit => Sys2Proof.Machine.execClash bit s
  | .serviceReplyExpiry => Sys2Proof.Machine.execServiceReplyExpiry s
  | .frameBadCheck bits => Sys2Proof.Machine.execFrameBadCheck bits s
  | .ownStationFrame => Sys2Proof.Machine.execOwnStationFrame s
  | .rowVerdict h payload => Sys2Proof.Machine.execRowVerdict h payload s
  | .sealReport h payload => Sys2Proof.Machine.execSealReport h payload s
  | .voidNotice h payload => Sys2Proof.Machine.execVoidNotice h payload s
  | .drawNotice h payload => Sys2Proof.Machine.execDrawNotice h payload s
  | .lineStateStop h payload => Sys2Proof.Machine.execLineStateStop h payload s
  | .lineStateRun h payload => Sys2Proof.Machine.execLineStateRun h payload s
  | .serviceReply h payload => Sys2Proof.Machine.execServiceReply h payload s
  | .unknownKind kind h payload => Sys2Proof.Machine.execUnknownKind kind h payload s
  | .serviceRequestNotAddressed h payload => Sys2Proof.Machine.execServiceRequestNotAddressed h payload s
  | .unknownRequest code h args => Sys2Proof.Machine.execUnknownRequest code h args s
  | .status h args => Sys2Proof.Machine.execStatus h args s
  | .readCountersA h args => Sys2Proof.Machine.execReadCountersA h args s
  | .readCountersB h args => Sys2Proof.Machine.execReadCountersB h args s
  | .setCounter h args => Sys2Proof.Machine.execSetCounter h args s
  | .freeze h args => Sys2Proof.Machine.execFreeze h args s
  | .thaw h args => Sys2Proof.Machine.execThaw h args s
  | .clearCounters h args => Sys2Proof.Machine.execClearCounters h args s
  | .readLogA h args => Sys2Proof.Machine.execReadLogA h args s
  | .readLogB h args => Sys2Proof.Machine.execReadLogB h args s
  | .readRow h args => Sys2Proof.Machine.execReadRow h args s
  | .readConfig h args => Sys2Proof.Machine.execReadConfig h args s
  | .clearAlarms h args => Sys2Proof.Machine.execClearAlarms h args s
  | .clearFault h args => Sys2Proof.Machine.execClearFault h args s
  | .hold h args => Sys2Proof.Machine.execHold h args s
  | .release h args => Sys2Proof.Machine.execRelease h args s
  | .resync h args => Sys2Proof.Machine.execResync h args s
  | .refCheck h args => Sys2Proof.Machine.execRefCheck h args s
  | .dryStart h args => Sys2Proof.Machine.execDryStart h args s
  | .dryStop h args => Sys2Proof.Machine.execDryStop h args s
  | .restart h args => Sys2Proof.Machine.execRestart h args s
  | .indexEdge now => Sys2Proof.Machine.execIndexEdge now s
  | .settleEnd => Sys2Proof.Machine.execSettleEnd s
  | .sampleTick conv => Sys2Proof.Machine.execSampleTick conv s
  | .openRecovery channel conv => Sys2Proof.Machine.execOpenRecovery channel conv s
  | .lagEnd lane => Sys2Proof.Machine.execLagEnd lane s
  | .dwellLimit => Sys2Proof.Machine.execDwellLimit s
  | .dryLiftCommand lane => Sys2Proof.Machine.execDryLiftCommand lane s
  | .dryDwellEnd => Sys2Proof.Machine.execDryDwellEnd s
  | .closeTimeout => Sys2Proof.Machine.execCloseTimeout s
  | .openTimeout => Sys2Proof.Machine.execOpenTimeout s
  | .openSensorActive => Sys2Proof.Machine.execOpenSensorActive s
  | .openSensorInactive => Sys2Proof.Machine.execOpenSensorInactive s
  | .closedSensorChange active => Sys2Proof.Machine.execClosedSensorChange active s
  | .stopInputActivation => Sys2Proof.Machine.execStopInputActivation s
  | .stopInputRelease => Sys2Proof.Machine.execStopInputRelease s
  | .dryPeriodExpiry => Sys2Proof.Machine.execDryPeriodExpiry s
  | .refCheckEnd => Sys2Proof.Machine.execRefCheckEnd s
  | .regulationPeriodEnd => Sys2Proof.Machine.execRegulationPeriodEnd s
  | .budgetPeriodEnd => Sys2Proof.Machine.execBudgetPeriodEnd s
  | .heaterOnTimeEnd lane => Sys2Proof.Machine.execHeaterOnTimeEnd lane s
  | .idleTimeout => Sys2Proof.Machine.execIdleTimeout s
  | .startMarkRefused mark => Sys2Proof.Machine.execStartMarkRefused mark s

end Sys2Proof.Machine
end

