-- ==== Sys2Proof/Safety.lean ====
section
/-! DEFINITION. What counts as a good state, and the words the statements use for a command's outcome and for a frame taken in. -/

namespace Sys2Proof.Machine

/-! ## Outcomes -/

/-- The command takes the state to the one with the part given; the waiting commands stay as they are. -/
def Takes (c : Instr) (s : State) (t : Part) : Prop := exec c s = .next { s with part := t }

/-- No RESTART waits for its reply to leave (R192). -/
def NoRestart (p : Part) : Prop := p.responder.pendingRestart = false

/-- A frame stands on the line that the port has given up on, takes in, or sends: after a reset it is not taken in (R26, log 52). -/
def onLine (p : Part) : Bool := p.port.waitQuiet || p.port.receiving || p.port.queue.any TxFrame.sending

/-- What a RESTART leaves (R26, R48, R92, R111, R131, R154, R171, R182, R187, R193, R194, R201): the monitor's counts and controls, the
dwell log, the factory value and the input levels stay, the receiver waits for quiet while a frame stands on the line, and the start
sequence has begun, unless the reset input holds the part. -/
def restarted (p : Part) : Part :=
  { Part.reset with
    port := { LinePort.reset with waitQuiet := onLine p },
    sampling := Sampling.reset p.sampling.factory,
    sequencer :=
      { Sequencer.reset with platen := if p.pins.openSensor = true ∧ p.pins.resetInput = false then .opened else .opening },
    monitor :=
      { counters := p.monitor.counters, controls := p.monitor.controls.map (fun t => { t with memory := false }), frozen := none,
        snapshot := none },
    log := p.log,
    loader := if p.pins.resetInput then Loader.reset else { Loader.reset with phase := .crystal, straps := p.pins.straps },
    pins := p.pins }

/-- How an event ends that leaves `p` and brings no entry to OPEN about: a restart whose reply is no longer queued, sent, expired or
displaced, is performed (R22, R192; at the end of the event, log 13), and the outputs follow. -/
def endOf (p : Part) : Part :=
  drive
    (if p.responder.pendingRestart = true ∧ p.port.queue.any TxFrame.restartReply = false then restarted p else p)

/-! ## Frames taken in -/

/-- A whole frame with this header is counted and dispatched: the port listens, and the sender station is neither 0 nor own
(R23, R24). -/
def Admitted (h : Header) (p : Part) : Prop :=
  listening p = true ∧ h.station ≠ 0 ∧ ownStation p ≠ some h.station

/-- The part as the payload of an admitted frame finds it: the frame is counted and its header taken as evidence (R24, R25). -/
def heard (h : Header) (p : Part) : Part := takeEvidence h (count .frameReceived (lineBusy p))

/-- The part `r` is what a command from outside finds: everything due is taken (log 2). -/
def Finds (s : State) (r : Part) : Prop := r = ready s.part

/-- The part `r` is what the payload of an admitted frame finds (R23 to R25). -/
def Hears (h : Header) (s : State) (r : Part) : Prop := Admitted h (ready s.part) ∧ r = heard h (ready s.part)

/-- The part `r` is what a request addressed to this station finds (R25, R26). -/
def Asks (h : Header) (s : State) (r : Part) : Prop := Hears h s r ∧ (ownStation r).isSome = true

/-! ## Invariants -/

/-- While H is present the travel queue holds the 48 records for H to H+47, head first; while it is absent, none (R34). -/
def TravelQueueOk (p : Part) : Prop :=
  match p.tracker.h with
  | some h => p.tracker.records.map RowRecord.tag = windowTags h
  | none => p.tracker.records = []

/-- The transmit queue holds at most 16 frames in order of priority value, at most one in transmission, at most one DRAW NOTICE, and
never two SEAL REPORTs with the same tag (R17, R20). -/
def TransmitQueueOk (q : List TxFrame) : Prop :=
  q.length ≤ 16 ∧ q.Pairwise (fun f g => priority f.body ≤ priority g.body) ∧ (q.filter TxFrame.sending).length ≤ 1 ∧
    (q.filter (fun f => isDraw f.body)).length ≤ 1 ∧ (q.filterMap (fun f => reportTag f.body)).Nodup

/-- Every temperature handed on lies in 0 to 1600 qd and the pressure in 0 to 1000 kPa (R85). -/
def ReadingsOk (s : Sampling) : Prop := (∀ x ∈ s.channels, x.temp ≤ 1600) ∧ s.pressure ≤ 1000

/-- The draw table holds at most 16 entries, at most one per sender station, of ages 0 to 2 (R103). -/
def DrawTableOk (ds : List Draw) : Prop :=
  ds.length ≤ 16 ∧ (ds.map Draw.station).Nodup ∧ ∀ d ∈ ds, d.age ≤ 2

/-- Seven counters below 2^40 (R172). -/
def CountersOk (m : Monitor) : Prop := m.counters.length = 7 ∧ ∀ c ∈ m.counters, c.value < counterModulus

/-- The saturating counts stand within their ranges (R18, R49, R121, R132, R139, R153, R165, R184). -/
def CountsOk (p : Part) : Prop :=
  p.port.clashCount ≤ 255 ∧ p.tracker.quietCount ≤ 255 ∧ p.sequencer.closeTimeouts ≤ 3 ∧ p.dose.lost ≤ 255 ∧
    p.dose.underCount ≤ 3 ∧ p.control.fault.further ≤ 255 ∧ p.log.overflow ≤ 65535 ∧
    ∀ l ∈ p.dose.lanes, l.acc ≤ 1048575

/-- The dwell log holds at most 64 entries (R183). -/
def LogOk (l : DwellLog) : Prop := l.entries.length ≤ 64

/-- While the platen is neither in CLOSING nor in DWELL no lane is in contact or in lag (R112, R119, R143). -/
def ContactsOk (p : Part) : Prop :=
  closing p.sequencer.platen = false → ∀ l ∈ p.dose.lanes, l.contact = .ended

/-- A dry cycle is in progress only in DRY; and while the start sequence is unfinished the station stands in START, its platen in
OPEN or in OPENING without an open timer, and runs no reference check but the start's own (R90, R123, R129 to R131, R156, R162,
R200). -/
def DryOnlyInDry (p : Part) : Prop :=
  (p.sequencer.dry ≠ none → p.control.mode = .dry) ∧
    (p.loader.phase ≠ .complete → p.loader.phase ≠ .failed →
      p.control.mode = .start ∧ (p.sequencer.platen = .opened ∨ p.sequencer.platen = .opening) ∧
        p.sequencer.openTimer = none ∧ (p.loader.phase ≠ .checking → p.sampling.check = none))

/-! ## The dwell log -/

/-- `x` is the entry that the rules give the cycle in progress (R29, R151, R152): lanes not in use show dose 0 and lift 255. -/
def EntryIs (x : LogEntry) (p : Part) (tag : Tag) (dry aborted forced : Bool) : Prop :=
  x =
    { tag := tag, samples := p.dose.samples, lost := p.dose.lost, scale := p.dose.scaleAtStart, dry := dry, aborted := aborted,
      forced := forced, chatter := p.tracker.chatter, drift := p.dose.drift,
      lanes :=
        (List.range 8).map
          (fun i =>
            if i < (cfg p).lanes then
              { dose := min 65535 (((laneDose p i).acc + 8) / 16),
                lift := ((laneDose p i).lift.map (fun s => s / 2)).getD 255 }
            else { dose := 0, lift := 255 }) }

/-- `l` is the dwell log of `p` with the entry `x` handed to it (R183, R184). -/
def LoggedIn (l : DwellLog) (x : LogEntry) (p : Part) : Prop :=
  l =
    if p.log.entries.length < 64 then { p.log with entries := p.log.entries ++ [x] }
    else
      { entries := if logOverwrites (cfg p) then p.log.entries.drop 1 ++ [x] else p.log.entries,
        overflow := min 65535 (p.log.overflow + 1) }

/-! ## Reply layouts -/

/-- The verdict and the reason in one byte, numbered as in R9. -/
def VerdictByte (b : Byte) (v : Verdict) (r : Reason) : Prop :=
  ([.pending, .sealed, .under, .over, .doubt, .skipped] : List Verdict)[b.toNat / 16]? = some v ∧
    ([.none, .station, .noHeat, .upstream, .overdose, .noCard, .badForm, .crush, .unknown, .missed, .notNeeded] :
      List Reason)[b.toNat % 16]? = some r

/-- The data of a STATUS reply, byte by byte (R13, R50). -/
def StatusLayout (d : List Byte) (p : Part) : Prop :=
  d.length = 23 ∧ ([.start, .seek, .run, .hold, .dry, .fault] : List Mode)[byteAt d 0]? = some p.control.mode ∧
    (List.range 8).map (fun i => (d.getD 1 0).getLsbD i) =
      [p.regulator.idle, p.control.operatorHold, p.control.lineStop, p.loader.phase == .configBad, p.sampling.converterFault,
        p.sampling.drift, p.control.fault.h.isSome, p.tracker.h.isSome] ∧
    ([.opened, .settle, .closing, .dwell, .opening] : List Platen)[byteAt d 2]? = some p.sequencer.platen ∧
    fieldAt d 3 = p.control.alarms.toNat ∧ tagAt d 5 = p.tracker.h.getD 0 ∧
    byteAt d 7 = p.control.fault.code % 256 ∧ tagAt d 8 = p.control.fault.h.getD 0 ∧
    fieldAt d 10 * 65536 + fieldAt d 12 = p.control.fault.count.toNat ∧ byteAt d 14 = p.control.fault.further % 256 ∧
    byteAt d 15 =
      (if p.control.mode = .seek ∧ p.tracker.candidate ≠ none then p.tracker.candidateCount % 256 else 0) ∧
    (p.tracker.skew = none → byteAt d 16 = 0 ∧ fieldAt d 17 = 0) ∧
    (∀ x : Skew, p.tracker.skew = some x → byteAt d 16 = x.count % 256 ∧ tagAt d 17 = BitVec.ofInt 16 x.d) ∧
    (∀ c, c < 8 →
      (d.getD 19 0).getLsbD c = (decide (c < (cfg p).lanes) && (laneChannel p c).isOpen) ∧
        (d.getD 20 0).getLsbD c = (decide (c < (cfg p).lanes) && (laneChannel p c).overheat)) ∧
    fieldAt d 21 = p.regulator.scale % 65536

/-- The wrap flags of a READ COUNTERS reply: bit c for counter c (R12). -/
def WrapByte (b : Byte) (cs : List Counter) : Prop := ∀ c, c < 8 → b.getLsbD c = (cs.getD c Counter.reset).wrap

/-- Five bytes from byte i, most significant first, hold a counter's value (R5, R12, R172). -/
def CounterAt (d : List Byte) (i : Nat) (k : Counter) : Prop :=
  byteAt d i * 4294967296 + fieldAt d (i + 1) * 65536 + fieldAt d (i + 3) = k.value % 1099511627776

/-- The data of READ COUNTERS A: counters 0 to 3, then the wrap flags (R12). -/
def CountersLayoutA (d : List Byte) (cs : List Counter) : Prop :=
  d.length = 21 ∧ (∀ (c : Nat) (k : Counter), c < 4 → cs[c]? = some k → CounterAt d (5 * c) k) ∧ WrapByte (d.getD 20 0) cs

/-- The data of READ COUNTERS B: counters 4 to 6, then the wrap flags (R12). -/
def CountersLayoutB (d : List Byte) (cs : List Counter) : Prop :=
  d.length = 16 ∧ (∀ (c : Nat) (k : Counter), 4 ≤ c → c < 7 → cs[c]? = some k → CounterAt d (5 * (c - 4)) k) ∧
    WrapByte (d.getD 15 0) cs

/-- Three bytes from byte i hold a lane of a dwell log entry; a lane at or beyond n reads dose 0 and lift sample 255 (R15). -/
def LogLaneAt (d : List Byte) (i n c : Nat) (e : LogEntry) : Prop :=
  (n ≤ c → fieldAt d i = 0 ∧ byteAt d (i + 2) = 255) ∧
    ∀ l : LogLane, c < n → e.lanes[c]? = some l → fieldAt d i = l.dose % 65536 ∧ byteAt d (i + 2) = l.lift % 256

/-- The data of READ LOG A for an entry, with n lanes in use (R15). -/
def LogLayoutA (d : List Byte) (n entries overflow : Nat) (e : LogEntry) : Prop :=
  d.length = 23 ∧ byteAt d 0 = entries % 256 ∧ tagAt d 1 = e.tag ∧ fieldAt d 3 = e.samples % 65536 ∧
    byteAt d 5 = e.lost % 256 ∧ fieldAt d 6 = e.scale % 65536 ∧
    (List.range 8).map (fun i => (d.getD 8 0).getLsbD i) = [e.drift, e.chatter, e.forced, e.aborted, e.dry, false, false, false] ∧
    (∀ c, c < 4 → LogLaneAt d (9 + 3 * c) n c e) ∧ fieldAt d 21 = overflow % 65536

/-- The data of READ LOG B for an entry, with n lanes in use (R15). -/
def LogLayoutB (d : List Byte) (n entries : Nat) (e : LogEntry) : Prop :=
  d.length = 15 ∧ byteAt d 0 = entries % 256 ∧ tagAt d 1 = e.tag ∧ ∀ c, 4 ≤ c → c < 8 → LogLaneAt d (3 + 3 * (c - 4)) n c e

/-- The data of READ ROW for a lane of a record, byte by byte (R14). -/
def RowLayout (d : List Byte) (row : RowRecord) (lane : Nat) (e : LaneEntry) : Prop :=
  d.length = 25 ∧ tagAt d 0 = row.tag ∧
    (List.range 8).map (fun i => (d.getD 2 0).getLsbD i) =
      [row.upstreamVoided.contains 1, row.upstreamVoided.contains 2, row.upstreamVoided.contains 3,
        row.upstreamVoided.contains 4, false, false, row.concluded, row.frozen] ∧
    byteAt d 3 = lane % 256 ∧
    ([none, some .good, some .bad] : List (Option Formed))[byteAt d 4 / 64]? = some e.formed ∧
    ([none, some .good, some .short, some .over, some .empty] : List (Option Load))[byteAt d 4 / 8 % 8]? = some e.load ∧
    ([none, some .placed, some .missing, some .skewed] : List (Option Card))[byteAt d 4 / 2 % 4]? = some e.card ∧
    byteAt d 4 % 2 = 0 ∧
    ([.notSet, .press, .notPressed, .holdOff] : List Plan)[byteAt d 5 / 16]? = some e.plan ∧
    ([.none, .station, .noHeat, .upstream, .overdose, .noCard, .badForm, .crush, .unknown, .missed, .notNeeded] :
      List Reason)[byteAt d 5 % 16]? = some e.planReason ∧
    fieldAt d 6 = e.aim % 65536 ∧ fieldAt d 8 = e.ownDose % 65536 ∧ VerdictByte (d.getD 10 0) e.verdict e.reason ∧
    (List.range 8).map (fun i => (d.getD 11 0).getLsbD i) =
      [e.forced, e.noContact, e.drift, e.sensor, e.voided, e.assumed, false, false] ∧
    byteAt d 12 = e.contributions.length % 256 ∧
    ∀ i, i < 3 →
      (∀ x : Contribution, e.contributions[i]? = some x →
        byteAt d (13 + 4 * i) = x.stage % 256 ∧ fieldAt d (14 + 4 * i) = x.dose % 65536 ∧
          VerdictByte (d.getD (16 + 4 * i) 0) x.verdict x.reason) ∧
      (e.contributions[i]? = none →
        byteAt d (13 + 4 * i) = 0 ∧ fieldAt d (14 + 4 * i) = 0 ∧ byteAt d (16 + 4 * i) = 0)

/-! ## The Service Request Summary -/

/-- A row of the Service Request Summary (R189): code, number of argument bytes, and the command. -/
structure RequestRow where
  code : Nat
  size : Nat
  command : Header → List Byte → Instr

/-- The requests with their codes and argument counts (R189). -/
def requestRows : List RequestRow :=
  [⟨1, 0, .status⟩, ⟨2, 0, .readCountersA⟩, ⟨3, 0, .readCountersB⟩, ⟨4, 6, .setCounter⟩, ⟨5, 0, .freeze⟩, ⟨6, 0, .thaw⟩,
    ⟨7, 0, .clearCounters⟩, ⟨8, 0, .readLogA⟩, ⟨9, 0, .readLogB⟩, ⟨10, 3, .readRow⟩, ⟨11, 1, .readConfig⟩,
    ⟨12, 2, .clearAlarms⟩, ⟨13, 0, .clearFault⟩, ⟨14, 0, .hold⟩, ⟨15, 0, .release⟩, ⟨16, 0, .resync⟩, ⟨17, 0, .refCheck⟩,
    ⟨18, 0, .dryStart⟩, ⟨19, 0, .dryStop⟩, ⟨20, 0, .restart⟩]

end Sys2Proof.Machine
end

