-- ==== Sys2Proof/Certificates/Slice0/Obligations.lean ====
section
/-! DEFINITION. The statements for the provers. In each, `r` is the part as the command finds it: `ready s.part`, with everything due
taken (log 2), or, for a frame, that part with the frame counted and its header heard; `endOf` is the end of an event: the restart whose
reply has left the queue is performed (R192), and the outputs follow. -/

open Sys2Proof Sys2Proof.Machine

/-! ## Steps -/

/-- The model's queue (log 1): a step carries out the command at the front on the state with the rest of the queue; on an empty queue
the block idles. -/
def Obligations.StepTakesFrontCommand : Prop :=
  (∀ (c : Instr) (rest : List Instr) (p : Part),
      step { pending := c :: rest, part := p } = exec c { pending := rest, part := p }) ∧
    ∀ p : Part, step { pending := [], part := p } = .next { pending := [], part := p }

/-- Every command on every state answers a next state and leaves the waiting commands as they are. -/
def Obligations.EveryCommandCompletes : Prop := ∀ (c : Instr) (s : State), ∃ t, Takes c s t

/-! ## Invariants -/

/-- The state after reset meets every invariant below. -/
def Obligations.ResetMeetsInvariants : Prop :=
  TravelQueueOk State.reset.part ∧ TransmitQueueOk State.reset.part.port.queue ∧ ReadingsOk State.reset.part.sampling ∧
    DrawTableOk State.reset.part.regulator.draws ∧ CountersOk State.reset.part.monitor ∧ CountsOk State.reset.part ∧
    LogOk State.reset.part.log ∧ ContactsOk State.reset.part ∧ DryOnlyInDry State.reset.part

/-- R34: the 48 records for H to H+47 while H is present, none while it is absent. -/
def Obligations.StepKeepsTravelQueue : Prop :=
  ∀ s t : State, TravelQueueOk s.part → step s = .next t → TravelQueueOk t.part

/-- R17, R20, R22: the transmit queue's order and limits. -/
def Obligations.StepKeepsTransmitQueue : Prop :=
  ∀ s t : State, TransmitQueueOk s.part.port.queue → step s = .next t → TransmitQueueOk t.part.port.queue

/-- R85, R103, R104, R139, R172, R183 and the saturating counts: each of these stays within its range. -/
def Obligations.StepKeepsRangesAndLimits : Prop :=
  ∀ s t : State, step s = .next t →
    (ReadingsOk s.part.sampling → ReadingsOk t.part.sampling) ∧
      (DrawTableOk s.part.regulator.draws → DrawTableOk t.part.regulator.draws) ∧
      (CountersOk s.part.monitor → CountersOk t.part.monitor) ∧ (CountsOk s.part → CountsOk t.part) ∧
      (LogOk s.part.log → LogOk t.part.log)

/-- No lane is in contact or in lag while the platen is neither in CLOSING nor in DWELL. -/
def Obligations.StepKeepsContactsClosed : Prop :=
  ∀ s t : State, ContactsOk s.part → step s = .next t → ContactsOk t.part

/-! ## Rules over every command -/

/-- R124: PERMIT after every command. -/
def Obligations.PermitFollowsItsConditions : Prop :=
  ∀ (c : Instr) (s : State) (t : Part), Takes c s t →
    (t.pins.permit = true ↔
      t.sequencer.platen = .opened ∧ t.pins.openSensor = true ∧ t.control.mode ≠ .start ∧ t.control.mode ≠ .fault)

/-- R169: ALARM after every command; the enable mask is all set until a configuration is in force. (That invalid straps do not show as
CONFIG_BAD before the end of step 3: log 31.) -/
def Obligations.AlarmFollowsEnabledFlags : Prop :=
  ∀ (c : Instr) (s : State) (t : Part), Takes c s t →
    (t.pins.alarm = true ↔
      t.loader.phase = .configBad ∨
        t.control.alarms &&& (match t.loader.config with | none => 0xFFFF | some k => k.alarmMask) ≠ 0)

/-- R54, R100, R112: one valve is driven at a time, and a lift is released only in CLOSING or DWELL for a lane in use that is in
contact; the heater of a physical channel follows its lane's. -/
def Obligations.ValvesLiftsAndHeatersFollow : Prop :=
  ∀ (c : Instr) (s : State) (t : Part), Takes c s t →
    (t.pins.closeValve = true ↔ t.sequencer.platen = .closing ∨ t.sequencer.platen = .dwell) ∧
      t.pins.openValve = !t.pins.closeValve ∧
      ∀ ch, ch < 8 →
        t.pins.lifts[ch]? = some (!(t.pins.closeValve && decide (ch < (cfg t).lanes) &&
          (laneDose t (channelOf (cfg t) ch)).contact == .inContact)) ∧
        t.pins.heaters[ch]? = some (decide (ch < (cfg t).lanes) && (laneHeater t (channelOf (cfg t) ch)).on)

/-- R89, R166: a converter fault holds the station in FAULT until a restart; the start sequence is over (an unfinished one has its own
rule). -/
def Obligations.ConverterFaultHoldsFault : Prop :=
  ∀ (c : Instr) (s : State) (t : Part), s.part.loader.phase = .complete ∨ s.part.loader.phase = .failed →
    s.part.control.mode = .fault → s.part.sampling.converterFault = true → Takes c s t →
      t.control.mode = .start ∨ (t.control.mode = .fault ∧ t.sampling.converterFault = true)

/-- R65, R115, R129, R130, R162: every step keeps it so that a dry cycle is in progress only in DRY. While that holds of a platen in
SETTLE and the start sequence is over, no command closes the platen in HOLD or FAULT. -/
def Obligations.NoCloseInHoldOrFault : Prop :=
  (∀ s t : State, DryOnlyInDry s.part → step s = .next t → DryOnlyInDry t.part) ∧
    ∀ (c : Instr) (s : State) (t : Part), s.part.loader.phase = .complete ∨ s.part.loader.phase = .failed →
      (s.part.sequencer.dry ≠ none → s.part.sequencer.platen = .settle → s.part.control.mode = .dry) →
        closing s.part.sequencer.platen = false → Takes c s t → closing t.sequencer.platen = true →
          t.control.mode ≠ .hold ∧ t.control.mode ≠ .fault

/-- R192: a pending restart waits only while the RESTART reply is queued, after every command and where a command from outside finds
the part (the moment within the event: log 13). -/
def Obligations.RestartWaitsOnlyForItsReply : Prop :=
  (∀ (c : Instr) (s : State) (t : Part), Takes c s t → t.responder.pendingRestart = true →
    ∃ f ∈ t.port.queue, f.restartReply = true) ∧
    ∀ p : Part, (ready p).responder.pendingRestart = true → ∃ f ∈ (ready p).port.queue, f.restartReply = true

/-- The end of every event (R122, R192): an entry to OPEN where the open sensor is active in OPENING (log 15), then a pending restart
whose reply is no longer queued (log 13), and the outputs. -/
def Obligations.EventEndEntersOpenOnce : Prop :=
  ∀ p : Part,
    finish p =
      if p.sequencer.platen = .opening ∧ p.pins.openSensor = true ∧ p.loader.phase ≠ .off then endOf (enterOpen p)
      else endOf p

/-! ## Start-up and pins -/

/-- R26, R48, R92, R111, R131, R154, R171, R182, R187, R193, R194, R195, R201: what POWER-ON, the reset input and its release leave.
The part stays in its reset state while the input is held; the factory value and the input levels stay. A frame that stands on the line
is discarded: the receiver waits for quiet (log 52). The model's choices: the levels (log 6), the millisecond count and the line's
quiet at their reset values (log 5, log 9), and that a release while the part is not held changes nothing but the input (log 3). -/
def Obligations.ResetsLeaveTheirValues : Prop :=
  (∀ s : State, s.part.pins.resetInput = false →
      Takes .powerOn s
        (drive
          { Part.reset with
            port := { LinePort.reset with waitQuiet := onLine s.part }, sampling := Sampling.reset s.part.sampling.factory,
            sequencer := { Sequencer.reset with platen := if s.part.pins.openSensor then .opened else .opening },
            loader := { Loader.reset with phase := .crystal, straps := s.part.pins.straps }, pins := s.part.pins })) ∧
    (∀ s : State, s.part.pins.resetInput = true →
      Takes .powerOn s
        (drive
          { Part.reset with
            port := { LinePort.reset with waitQuiet := onLine s.part }, sampling := Sampling.reset s.part.sampling.factory,
            pins := s.part.pins })) ∧
    (∀ (s : State) (r : Part), r = ready s.part →
      Takes .resetInput s
        (drive
          { Part.reset with
            port := { LinePort.reset with waitQuiet := onLine r }, sampling := Sampling.reset r.sampling.factory,
            monitor :=
              { counters := r.monitor.counters, controls := r.monitor.controls.map (fun t => { t with memory := false }),
                frozen := none, snapshot := none },
            log := r.log, pins := { r.pins with resetInput := true } })) ∧
    ∀ (s : State) (r : Part), Finds s r →
      (r.loader.phase = .off →
        Takes .resetRelease s
          (finish
            { r with
              loader := { r.loader with phase := .crystal, straps := r.pins.straps },
              pins := { r.pins with resetInput := false } })) ∧
        (r.loader.phase ≠ .off →
          Takes .resetRelease s (endOf { r with pins := { r.pins with resetInput := false } }))

/-- R196, R200: the clock settled by the crystal or by the end of its 20 ms, and the start fault of code 5 at the end of the wait. That
CRYSTAL_WAIT_EXPIRY and START_OPEN_TIMEOUT change nothing where their wait does not run is the model's choice (log 3). -/
def Obligations.StartSequenceSteps : Prop :=
  ∀ (s : State) (r : Part), Finds s r →
    (r.loader.phase = .crystal →
      Takes .crystalRunning s (endOf { r with loader := { r.loader with phase := .reading, clock := .crystal } }) ∧
        Takes .crystalWaitExpiry s
          (endOf
            (raise .clockFallback { r with loader := { r.loader with phase := .reading, clock := .internal } }))) ∧
      (r.loader.phase = .waiting →
        Takes .startOpenTimeout s
          (finish (takeFault 5 { r with loader := { r.loader with phase := .failed, waitTimer := none } }))) ∧
      (r.loader.phase ≠ .crystal → Takes .crystalRunning s (endOf r) ∧ Takes .crystalWaitExpiry s (endOf r)) ∧
      (r.loader.phase ≠ .waiting → Takes .startOpenTimeout s (endOf r))

/-- R91, R94, R131, R195, R197 to R200: a sound block is put in force as clamped, with its reference check started; any other ends the
start in CONFIG_BAD with the bytes read kept, none where the locator names no block of 95 bytes. The model's choices: the moment of
CONFIG_BAD (log 31), a class byte above 1 clamped to B and so counted in CONFIG_CLAMPED (log 23), the setpoint in force from step 6
on (log 20), and that a block outside step 3 changes nothing (log 3). -/
def Obligations.ConfigurationPutInForceOrBad : Prop :=
  ∀ (s : State) (r : Part) (m : MemoryRead) (b : List Byte) (k : Configuration), Finds s r →
    (r.loader.phase ≠ .reading → Takes (.configBlockRead m) s (endOf r)) ∧
    (r.loader.phase = .reading → b = (List.range 95).map (fun i => m.bytes.getD i 0) → k = clampBlock (readBlock b) →
      ((m.endAddr.toNat = m.startAddr.toNat + 94 ∧ r.loader.straps ≠ 0 ∧ r.loader.straps ≠ 31 ∧ checksPass b = true ∧
          structuralError k = false) →
        Takes (.configBlockRead m) s
          (endOf
            (raiseIf (clampedAny b) .configClamped
              { r with
                loader := { r.loader with phase := .checking, block := some b, config := some k },
                regulator := { r.regulator with setpoint := k.spRun },
                sequencer := { r.sequencer with dwellLimit := k.nconf },
                sampling := { r.sampling with check := some { ticks := 0, sum := 0, count := 0 } } }))) ∧
        ((m.endAddr.toNat = m.startAddr.toNat + 94 ∧
            (r.loader.straps = 0 ∨ r.loader.straps = 31 ∨ checksPass b = false ∨ structuralError k = true)) →
          Takes (.configBlockRead m) s
            (endOf { r with loader := { r.loader with phase := .configBad, block := some b } })) ∧
        (m.endAddr.toNat ≠ m.startAddr.toNat + 94 →
          Takes (.configBlockRead m) s (endOf { r with loader := { r.loader with phase := .configBad, block := none } })))

/-- R117, R127, R158, R160, R179, R195: a change of a strap, of a sensor, or the stop input's release is kept and, but for the outputs
that follow it, changes nothing else. The stop input's activation outside START also sets the line-stop flag, queues a LINE STATE STOP
of cause INPUT, takes RUN to HOLD, where the quiet count starts again (R49, log 43), and freezes counters under freeze-on-stop. That an
activation of an input already active changes nothing is the model's choice (log 3). -/
def Obligations.PinChangesAreKept : Prop :=
  ∀ (s : State) (r : Part), Finds s r →
    (∀ x : BitVec 5, Takes (.strapChange x) s (endOf { r with pins := { r.pins with straps := x } })) ∧
      (∀ b : Bool, Takes (.closedSensorChange b) s (endOf { r with pins := { r.pins with closedSensor := b } })) ∧
      Takes .openSensorInactive s (endOf { r with pins := { r.pins with openSensor := false } }) ∧
      Takes .stopInputRelease s (endOf { r with pins := { r.pins with stopInput := false } }) ∧
      (r.pins.stopInput = true → Takes .stopInputActivation s (endOf r)) ∧
      (r.pins.stopInput = false → r.control.mode = .start →
        Takes .stopInputActivation s (endOf { r with pins := { r.pins with stopInput := true } })) ∧
      (r.pins.stopInput = false → r.control.mode ≠ .start →
        ∃ t : Part, Takes .stopInputActivation s (endOf t) ∧ t.pins = { r.pins with stopInput := true } ∧
          t.control.lineStop = true ∧ t.control.mode = (if r.control.mode = .run then .hold else r.control.mode) ∧
          t.control.operatorHold = r.control.operatorHold ∧ t.control.fault = r.control.fault ∧
          t.port = (send (.lineStop .input) r).port ∧
          t.monitor.frozen =
            (if r.control.lineStop = false ∧ freezeOnStop (cfg r) = true ∧ r.monitor.frozen = none then some .stop
            else r.monitor.frozen) ∧
          t.monitor.controls = r.monitor.controls ∧
          t.tracker = { r.tracker with quietCount := if r.control.mode = .run then 0 else r.tracker.quietCount } ∧
          t.sampling = r.sampling ∧ t.regulator = r.regulator ∧ t.sequencer.platen = r.sequencer.platen ∧
          t.dose = r.dose ∧ t.log = r.log ∧
          t.responder = r.responder ∧ t.loader = r.loader)

/-! ## The row line, sending -/

/-- R20, R22: a joining frame. It stands behind every queued frame of its own priority; a DRAW NOTICE, or a SEAL REPORT with the same
tag, is replaced, or keeps its place while it is in transmission; a full queue gives up its newest frame of the largest priority value
not in transmission, if the joining frame is more urgent. -/
def Obligations.FramesJoinTheQueue : Prop :=
  ∀ (f : TxFrame) (p : Part) (a b c d : List TxFrame) (g : TxFrame),
    (∀ x ∈ c, priority x.body ≤ priority f.body) → (∀ x ∈ d, priority f.body < priority x.body) →
      ((∀ x ∈ p.port.queue, ¬(isDraw f.body = true ∧ isDraw x.body = true)) →
        (∀ (y : SealReport), f.body = .sealReport y → ∀ x ∈ p.port.queue, reportTag x.body ≠ some y.tag) →
          (p.port.queue.length < 16 → p.port.queue = c ++ d →
            joinQueue f p = { p with port := { p.port with queue := c ++ f :: d } }) ∧
            (16 ≤ p.port.queue.length →
              (∀ x ∈ p.port.queue, x.sending = false → priority x.body ≤ priority f.body) →
                joinQueue f p = raise .txOverflow (count .txDropped p)) ∧
            (16 ≤ p.port.queue.length → p.port.queue = a ++ g :: b → a ++ b = c ++ d → g.sending = false →
              priority f.body < priority g.body →
              (∀ x ∈ a, x.sending = false → priority x.body ≤ priority g.body) →
              (∀ x ∈ b, x.sending = false → priority x.body < priority g.body) →
                joinQueue f p =
                  raise .txOverflow (count .txDropped { p with port := { p.port with queue := c ++ f :: d } }))) ∧
        (p.port.queue = a ++ g :: b → a ++ b = c ++ d →
          (isDraw f.body = true → isDraw g.body = true → (∀ x ∈ a, isDraw x.body = false) →
            joinQueue f p = if g.sending then p else { p with port := { p.port with queue := c ++ f :: d } }) ∧
          (∀ y : SealReport, f.body = .sealReport y → reportTag g.body = some y.tag →
            (∀ x ∈ a, reportTag x.body ≠ some y.tag) →
              joinQueue f p =
                count .txDropped
                  (if g.sending then p else { p with port := { p.port with queue := c ++ f :: d } })))

/-- R1, R17, R26: at the quiet the head of the queue begins its transmission, if the station number is valid; a frame that joins an empty
queue while the line is quiet begins at the joining; and the first bit of another node's frame, which comes in with its start mark (the
model's choice of the command, log 9), ends the quiet, after which a joining frame only takes its place. While the straps have not been
sampled the port begins nothing, and a frame that begins is not taken in: the receiver waits for the quiet that follows (log 52). While
it sends, the line is not quiet. -/
def Obligations.QuietBeginsTheHead : Prop :=
  (∀ (s : State) (r : Part), Finds s r →
    (r.loader.phase = .off →
      Takes .quietDeclaration s (endOf { r with port := { r.port with waitQuiet := false } }) ∧
        ∀ mark : Byte, Takes (.startMarkRefused mark) s (endOf { r with port := { r.port with waitQuiet := true } })) ∧
      (∀ (f : TxFrame) (fs : List TxFrame), r.port.queue = f :: fs → (∀ g ∈ f :: fs, g.sending = false) →
        (ownStation r).isSome = true →
          Takes .quietDeclaration s
            (endOf
              { r with
                port :=
                  { r.port with
                    quiet := false, waitQuiet := false, receiving := false, queue := { f with sending := true } :: fs } })) ∧
      ((r.port.queue = [] ∨ ownStation r = none) → (∀ g ∈ r.port.queue, g.sending = false) → r.loader.phase ≠ .off →
        Takes .quietDeclaration s
          (endOf { r with port := { r.port with quiet := true, waitQuiet := false, receiving := false } })) ∧
      ((∃ g ∈ r.port.queue, g.sending = true) → r.loader.phase ≠ .off →
        Takes .quietDeclaration s
          (endOf { r with port := { r.port with quiet := false, waitQuiet := false, receiving := false } })) ∧
      (listening r = true → ∀ mark : Byte, markAccepted (markTolerance (cfg r)) mark = true →
        Takes (.startMarkRefused mark) s (endOf { r with port := { r.port with quiet := false, receiving := true } }))) ∧
    ∀ (f : TxFrame) (p : Part),
      (p.port.quiet = false → join f p = joinQueue f p) ∧
        (p.port.quiet = true → p.port.queue = [] → f.sending = false → (ownStation p).isSome = true →
          join f p = { p with port := { p.port with quiet := false, queue := [{ f with sending := true }] } })

/-- R19, R192, R194: the frame sent leaves the queue and is counted. While a restart waits for its reply, a frame sent before that reply
changes nothing of this; when the frame sent is the reply, the restart is performed (at the end of the same event, log 13). -/
def Obligations.FrameSentLeavesAndRestarts : Prop :=
  ∀ (s : State) (r q : Part) (a b : List TxFrame) (f : TxFrame), Finds s r → r.port.queue = a ++ f :: b →
    (∀ g ∈ a, g.sending = false) → f.sending = true → q = count .frameSent r →
      Takes .frameSent s (endOf { q with port := { q.port with queue := a ++ b } }) ∧
        (NoRestart r ∨ (∃ g ∈ a ++ b, g.restartReply = true) →
          Takes .frameSent s (drive { q with port := { q.port with queue := a ++ b } })) ∧
        (r.responder.pendingRestart = true → (∀ g ∈ a ++ b, g.restartReply = false) → r.pins.resetInput = false →
          Takes .frameSent s
            (drive
              { Part.reset with
                port :=
                  { LinePort.reset with
                    waitQuiet := r.port.waitQuiet || r.port.receiving || (a ++ b).any TxFrame.sending },
                sampling := Sampling.reset r.sampling.factory,
                sequencer := { Sequencer.reset with platen := if r.pins.openSensor then .opened else .opening },
                monitor :=
                  { counters := q.monitor.counters,
                    controls := q.monitor.controls.map (fun t => { t with memory := false }), frozen := none,
                    snapshot := none },
                log := r.log, loader := { Loader.reset with phase := .crystal, straps := r.pins.straps },
                pins := r.pins }))

/-- R18, R21: a mismatch ends the transmission unsent: within the mark and the arbitration field, where the frame has a recessive bit,
by a lost arbitration, after which the port takes in the frame that won, anywhere else by a clash. The frame stays unless it expired
meanwhile. A reply's 500 ms take it from the queue, or mark it while it is in transmission (the oldest such reply: log 27). Where it is
the RESTART reply that leaves so, the restart is performed (R192; log 13). -/
def Obligations.MismatchAndExpiry : Prop :=
  ∀ (s : State) (r : Part) (a b : List TxFrame) (f : TxFrame), Finds s r → r.port.queue = a ++ f :: b →
    (∀ (own : BitVec 5) (bit : Nat) (e : Part), ownStation r = some own → f.sending = true →
        (∀ g ∈ a ++ b, g.sending = false) →
        e = (if expired f || f.lapsed then
              count .txDropped { r with port := { r.port with queue := a ++ b } }
            else { r with port := { r.port with queue := a ++ { f with sending := false } :: b } }) →
          (bit < 21 → (wireBits (builtFrame own f)).getD bit false = true →
            Takes (.arbLost bit) s (endOf (count .arbLost { e with port := { e.port with receiving := true } }))) ∧
          (bit < (wireBits (builtFrame own f)).length →
            (21 ≤ bit ∨ (wireBits (builtFrame own f)).getD bit false = false) →
            Takes (.clash bit) s
              (endOf
                (raiseIf (decide (3 ≤ r.port.clashCount + 1)) .stationClash
                  { e with port := { e.port with clashCount := min 255 (r.port.clashCount + 1), waitQuiet := true } })))) ∧
      ((∀ g ∈ a, ¬(isReply g.body = true ∧ g.lapsed = false)) → isReply f.body = true → f.lapsed = false →
        (f.sending = false →
          Takes .serviceReplyExpiry s (endOf (count .txDropped { r with port := { r.port with queue := a ++ b } }))) ∧
        (f.sending = true →
          Takes .serviceReplyExpiry s
            (endOf { r with port := { r.port with queue := a ++ { f with lapsed := true } :: b } })))

/-! ## The row line, receiving -/

/-- R2, R3, R5, R23, R24, R26: frames with a bad check are counted and no more; broken stuffing and a length above 32 leave the
receiver waiting for quiet, as a refused mark does, which counts nothing; own station's frame raises STATION_CLASH. While the straps
have not been sampled or the receiver waits, every frame is discarded and not counted, the rest of one that a reset cut among them (log
52). (Quiet and waiting as log 9 and log 11 say; the run of recessive bits after the mark: log 45.) -/
def Obligations.BadFramesAreOnlyCounted : Prop :=
  ∀ (s : State) (r : Part), Finds s r →
    (listening r = true →
      (∀ (bits : List Bool) (why : BadFrame), receiveBits bits = .bad why →
        Takes (.frameBadCheck bits) s
          (endOf
            (count .frameBadCheck
              { r with
                port :=
                  { r.port with
                    quiet := r.port.quiet && decide (why = .earlyQuiet), receiving := false,
                    waitQuiet := decide (why = .brokenStuffing ∨ why = .tooLong) } }))) ∧
      (∀ (bits : List Bool) (f : RxFrame), receiveBits bits = .whole f → f.header.station = 0 →
        Takes (.frameBadCheck bits) s
          (endOf (count .frameBadCheck { r with port := { r.port with quiet := false, receiving := false } }))) ∧
      (∀ mark : Byte, markAccepted (markTolerance (cfg r)) mark = false →
        Takes (.startMarkRefused mark) s
          (endOf { r with port := { r.port with quiet := false, waitQuiet := true, receiving := false } })) ∧
      ((ownStation r).isSome = true →
        Takes .ownStationFrame s
          (endOf (raise .stationClash { r with port := { r.port with quiet := false, receiving := false } })))) ∧
      (listening r = false →
        (∀ bits : List Bool, Takes (.frameBadCheck bits) s (endOf r)) ∧
          (r.loader.phase ≠ .off → ∀ mark : Byte, Takes (.startMarkRefused mark) s (endOf r)) ∧
          Takes .ownStationFrame s (endOf r) ∧
          ∀ (h : Header) (bytes : List Byte),
            (∀ frame ∈
                [Instr.rowVerdict, .sealReport, .voidNotice, .drawNotice, .lineStateStop, .lineStateRun, .serviceReply,
                  .serviceRequestNotAddressed],
              Takes (frame h bytes) s (endOf r)) ∧
              (∀ kind : BitVec 5, Takes (.unknownKind kind h bytes) s (endOf r)) ∧
              (∀ code : Byte, Takes (.unknownRequest code h bytes) s (endOf r)) ∧
              ∀ x ∈ requestRows, Takes (x.command h bytes) s (endOf r))

/-- R11, R25, R26: after evidence, SERVICE REPLYs and requests to others are passed over, and frames of unknown kind or without a
request are counted ODD_CODE. -/
def Obligations.FramesPassedOver : Prop :=
  ∀ (s : State) (h : Header) (r : Part), Hears h s r →
    (∀ payload : List Byte, Takes (.serviceReply h payload) s (endOf r)) ∧
      (∀ (target code : Byte) (args : List Byte), (∀ own, ownStation r = some own → target.toNat ≠ own.toNat) →
        Takes (.serviceRequestNotAddressed h (target :: code :: args)) s (endOf r)) ∧
      (∀ payload : List Byte, payload.length < 2 →
        Takes (.serviceRequestNotAddressed h payload) s (endOf (count .oddCode r))) ∧
      ∀ (kind : BitVec 5) (payload : List Byte), kind.toNat ∉ [2, 4, 6, 7, 10, 20, 21] →
        Takes (.unknownKind kind h payload) s (endOf (count .oddCode r))

/-- R25, R33, R39, R41, R49, R157: a frame's header as evidence while no H is held. Without a position, or outside SEEK, it moves no
candidate; the frame that brings the count to N sets H, creates the 48 records and enters RUN, or HOLD while a flag is set. -/
def Obligations.EvidenceAligns : Prop :=
  ∀ (h : Header) (p : Part) (i : Tag) (n : Nat), p.tracker.h = none →
    i = h.hereTag + BitVec.ofNat 16 h.position.toNat - BitVec.ofNat 16 (cfg p).position →
      n = (if p.tracker.candidate = some i then p.tracker.candidateCount + 1 else 1) →
        (h.position = 255 → takeEvidence h p = p) ∧
          (h.position ≠ 255 → p.control.mode ≠ .seek →
            takeEvidence h p = { p with tracker := { p.tracker with quietCount := 0 } }) ∧
          (h.position ≠ 255 → p.control.mode = .seek → n < (cfg p).evidence →
            takeEvidence h p =
              { p with
                tracker := { p.tracker with quietCount := 0, candidate := some i, candidateCount := n } }) ∧
          (h.position ≠ 255 → p.control.mode = .seek → (cfg p).evidence ≤ n →
            (takeEvidence h p).tracker =
                { p.tracker with
                  quietCount := 0, candidate := none, candidateCount := 0, skew := none, h := some i,
                  records :=
                    (List.range 48).map (fun m => freshRecord (cfg p) (i + BitVec.ofNat 16 m)) } ∧
              (takeEvidence h p).control =
                { p.control with mode := if p.control.lineStop ∨ p.control.operatorHold then .hold else .run } ∧
              (takeEvidence h p).sequencer.platen = p.sequencer.platen ∧ (takeEvidence h p).port = p.port ∧
              (takeEvidence h p).sampling = p.sampling ∧ (takeEvidence h p).dose = p.dose ∧
              (takeEvidence h p).monitor = p.monitor ∧ (takeEvidence h p).log = p.log ∧
              (takeEvidence h p).loader = p.loader ∧ (takeEvidence h p).pins = p.pins)

/-- R25, R32, R42 to R45: a frame's header as evidence while H is held. A skew of 0 empties the candidate; another is counted; at N the
realignment is decided: held pending in CLOSING, DWELL and OPENING, and applied at once in OPEN and SETTLE, where H moves by d, each
record of both windows keeps its statements, and a VOID NOTICE of cause REALIGN joins the queue. -/
def Obligations.EvidenceRealigns : Prop :=
  ∀ (h : Header) (p q : Part) (head i : Tag) (d : Int) (x : Skew), p.tracker.h = some head → h.position ≠ 255 →
    i = h.hereTag + BitVec.ofNat 16 h.position.toNat - BitVec.ofNat 16 (cfg p).position → d = (i - head).toInt →
      x = (match p.tracker.skew with
        | some y => if y.d = d then { d := d, count := y.count + 1, hFirst := y.hFirst } else ⟨d, 1, head⟩
        | none => ⟨d, 1, head⟩) →
        q = count .skewEvidence { p with tracker := { p.tracker with quietCount := 0, skew := none } } →
          (d = 0 → takeEvidence h p = { p with tracker := { p.tracker with quietCount := 0, skew := none } }) ∧
            (d ≠ 0 → x.count < (cfg p).evidence →
              takeEvidence h p = { q with tracker := { q.tracker with skew := some x } }) ∧
            (d ≠ 0 → (cfg p).evidence ≤ x.count → p.sequencer.platen ≠ .opened → p.sequencer.platen ≠ .settle →
              takeEvidence h p =
                { q with
                  tracker :=
                    { q.tracker with
                      pendingRealign :=
                        some { d := d, hFirst := (p.tracker.pendingRealign.map Realignment.hFirst).getD x.hFirst } } }) ∧
            (d ≠ 0 → (cfg p).evidence ≤ x.count → p.sequencer.platen = .opened ∨ p.sequencer.platen = .settle →
              takeEvidence h p =
                count .realign
                  (raise .realigned
                    (send
                      (.voidNotice (tagMin x.hFirst (tagAdd x.hFirst d)) (tagMax head (tagAdd head d)) (cfg p).stage
                        .realign)
                      { q with
                        tracker :=
                          { q.tracker with
                            h := some (tagAdd head d), pendingRealign := none,
                            records :=
                              (List.range 48).map
                                (fun m =>
                                  match p.tracker.records.find?
                                      (fun y => y.tag == tagAdd head d + BitVec.ofNat 16 m) with
                                  | some y =>
                                    { y with
                                      frozen := false, concluded := false,
                                      lanes :=
                                        y.lanes.map
                                          (fun e =>
                                            { freshLane with
                                              formed := e.formed, load := e.load, card := e.card,
                                              contributions := e.contributions }) }
                                  | none => freshRecord (cfg p) (tagAdd head d + BitVec.ofNat 16 m)) } })))

/-- R8, R25, R55, R57, R58: a ROW VERDICT. Malformed it is counted ODD_CODE (the model's choice for a role that fills no field:
log 40); well formed, from a role that fills no field, or while no H is held, it is passed over; below H, or at H with the plan frozen,
it is late; above H+47 it is beyond; else each lane below both counts takes its code, and REVISED and ODD_CODE are counted lane by
lane. -/
def Obligations.RowVerdictIsFiled : Prop :=
  ∀ (s : State) (h : Header) (payload : List Byte) (r : Part), Hears h s r →
    (readRowVerdict payload = none → Takes (.rowVerdict h payload) s (endOf (count .oddCode r))) ∧
      ∀ v : RowVerdict, readRowVerdict payload = some v →
        ((h.role ≠ .form ∧ h.role ≠ .load ∧ h.role ≠ .card ∨ r.tracker.h = none) →
          Takes (.rowVerdict h payload) s (endOf r)) ∧
        ((h.role = .form ∨ h.role = .load ∨ h.role = .card) → ∀ head : Tag, r.tracker.h = some head →
          ((tagDiff head v.tag < 0 ∨ v.tag = head ∧ headFrozen r = true) →
            Takes (.rowVerdict h payload) s (endOf (count .frameLate r))) ∧
          (47 < tagDiff head v.tag → Takes (.rowVerdict h payload) s (endOf (count .frameBeyond r))) ∧
          (0 ≤ tagDiff head v.tag → tagDiff head v.tag ≤ 47 → ¬(v.tag = head ∧ headFrozen r = true) →
            ∀ (a b : List RowRecord) (row : RowRecord) (lanes : List LaneEntry),
              r.tracker.records = a ++ row :: b → row.tag = v.tag → (∀ x ∈ a ++ b, x.tag ≠ v.tag) →
              lanes.length = row.lanes.length →
              (∀ (c : Nat) (e f : LaneEntry), row.lanes[c]? = some e → lanes[c]? = some f →
                f = match v.codes[c]? with
                  | some n =>
                    { e with
                      formed := if h.role = .form then (formedOf n).or e.formed else e.formed,
                      load := if h.role = .load then (loadOf n).or e.load else e.load,
                      card := if h.role = .card then (cardOf n).or e.card else e.card }
                  | none => e) →
                Takes (.rowVerdict h payload) s
                  (endOf
                    (countTimes .oddCode (oddLanes h.role v.codes row.lanes)
                      (countTimes .revised (revisedLanes h.role v.codes row.lanes)
                        { r with tracker := { r.tracker with records := a ++ { row with lanes := lanes } :: b } })))))

/-- R25, R53, R55, R59 to R62, R72: SEAL REPORTs and VOID NOTICEs by the stage they come from. From another role, or malformed, they are
counted ODD_CODE. Upstream ones change the records they reach, and only those: a report is dropped while H is absent, late below H or at
a frozen head, beyond above H+47, and else replaces or adds its stage's entry in each lane with a defined result, REVISED counted for
each entry replaced and ODD_CODE for each result out of range. At own stage STAGE_CONFLICT is raised; from downstream, or without a
configuration in force (log 28), nothing happens. (Beyond or late for a first tag more than half the tag circle off: log 41.) -/
def Obligations.UpstreamStagesAreFiled : Prop :=
  ∀ (s : State) (h : Header) (payload : List Byte) (r : Part), Hears h s r →
    (h.role ≠ .sealer →
      Takes (.sealReport h payload) s (endOf (count .oddCode r)) ∧
        Takes (.voidNotice h payload) s (endOf (count .oddCode r))) ∧
      (h.role = .sealer → readSealReport payload = none → Takes (.sealReport h payload) s (endOf (count .oddCode r))) ∧
      (h.role = .sealer → readVoidNotice payload = none → Takes (.voidNotice h payload) s (endOf (count .oddCode r))) ∧
      (h.role = .sealer → ∀ x : ReceivedReport, readSealReport payload = some x →
        (r.loader.config = none ∨ (cfg r).stage < x.stage ∨ x.stage < (cfg r).stage ∧ r.tracker.h = none →
          Takes (.sealReport h payload) s (endOf r)) ∧
        (r.loader.config ≠ none → x.stage < (cfg r).stage → ∀ head : Tag, r.tracker.h = some head →
          ((tagDiff head x.tag < 0 ∨ x.tag = head ∧ headFrozen r = true) →
            Takes (.sealReport h payload) s (endOf (count .frameLate r))) ∧
          (47 < tagDiff head x.tag → Takes (.sealReport h payload) s (endOf (count .frameBeyond r)))) ∧
        (r.loader.config ≠ none → x.stage = (cfg r).stage →
          Takes (.sealReport h payload) s (endOf (raise .stageConflict r))) ∧
        (r.loader.config ≠ none → x.stage < (cfg r).stage → ∀ head : Tag, r.tracker.h = some head →
          0 ≤ tagDiff head x.tag → tagDiff head x.tag ≤ 47 → ¬(x.tag = head ∧ headFrozen r = true) →
            ∀ (a b : List RowRecord) (row : RowRecord), r.tracker.records = a ++ row :: b → row.tag = x.tag →
              (∀ y ∈ a ++ b, y.tag ≠ x.tag) →
                ∃ (lanes : List LaneEntry) (odd revised : Nat),
                  Takes (.sealReport h payload) s
                    (endOf
                      (countTimes .oddCode odd
                        (countTimes .revised revised
                          { r with
                            tracker :=
                              { r.tracker with
                                records :=
                                  a ++
                                    { row with
                                      upstreamVoided := row.upstreamVoided.filter (fun j => j ≠ x.stage),
                                      lanes := lanes } :: b } }))) ∧
                    odd =
                      (List.range row.lanes.length).countP
                        (fun c =>
                          match x.lanes[c]? with
                          | some y => y.result.isNone
                          | none => false) ∧
                    revised =
                      (List.range row.lanes.length).countP
                        (fun c =>
                          match x.lanes[c]?, row.lanes[c]? with
                          | some y, some e => y.result.isSome && e.contributions.any (fun z => z.stage == x.stage)
                          | _, _ => false) ∧
                    lanes.length = row.lanes.length ∧
                    ∀ (c : Nat) (e f : LaneEntry), row.lanes[c]? = some e → lanes[c]? = some f →
                      (x.lanes[c]? = none → f = e) ∧
                        ∀ y : ReceivedLane, x.lanes[c]? = some y →
                          (y.result = none → f = e) ∧
                            ∀ (v : Verdict) (why : Reason), y.result = some (v, why) →
                              f = { e with contributions := f.contributions } ∧
                                ∀ (m n : List Contribution), (∀ z ∈ m, z.stage < x.stage) →
                                  (∀ z : Contribution, z.stage = x.stage → e.contributions = m ++ z :: n →
                                    f.contributions = m ++ ⟨x.stage, y.dose, v, why⟩ :: n) ∧
                                  ((∀ z ∈ n, x.stage < z.stage) → e.contributions = m ++ n →
                                    f.contributions = m ++ ⟨x.stage, y.dose, v, why⟩ :: n))) ∧
      (h.role = .sealer → ∀ v : ReceivedVoid, readVoidNotice payload = some v →
        (r.loader.config = none ∨ (cfg r).stage < v.stage ∨ v.stage < (cfg r).stage ∧ r.tracker.h = none →
          Takes (.voidNotice h payload) s (endOf r)) ∧
        (r.loader.config ≠ none → v.stage = (cfg r).stage →
          Takes (.voidNotice h payload) s (endOf (raise .stageConflict r))) ∧
        (r.loader.config ≠ none → v.stage < (cfg r).stage → ∀ (head : Tag) (reached : RowRecord → Prop),
          r.tracker.h = some head →
          (∀ y, reached y ↔ (0 ≤ tagDiff head y.tag ∧ tagDiff head y.tag ≤ 47 ∧ ¬(y.tag = head ∧ headFrozen r = true)) ∧
            0 ≤ tagDiff v.first v.last ∧ (y.tag - v.first).toNat ≤ (v.last - v.first).toNat) →
            (tagDiff v.first v.last < 0 → Takes (.voidNotice h payload) s (endOf (count .oddCode r))) ∧
            (0 ≤ tagDiff v.first v.last → (∀ y ∈ r.tracker.records, ¬reached y) →
              Takes (.voidNotice h payload) s
                (endOf (count (if 47 < tagDiff head v.first then .frameBeyond else .frameLate) r))) ∧
            ((∃ y ∈ r.tracker.records, reached y) →
              ∃ t, Takes (.voidNotice h payload) s (endOf { r with tracker := { r.tracker with records := t } }) ∧
                t.length = r.tracker.records.length ∧
                ∀ (n : Nat) (y z : RowRecord), r.tracker.records[n]? = some y → t[n]? = some z →
                  (¬reached y → z = y) ∧
                  (reached y →
                    z =
                      { y with
                        upstreamVoided := insertStage v.stage y.upstreamVoided,
                        lanes :=
                          y.lanes.map
                            (fun e => { e with contributions := e.contributions.filter (fun c => c.stage ≠ v.stage) }) }))))

/-- R10, R25, R103: a DRAW NOTICE. One of own feed renews or adds its sender's entry, last in order; in a full table of which some entry
has aged it takes the place of the first of the greatest age. One of another feed, or before a configuration is in force, changes
nothing. (Reserved bits: log 24.) -/
def Obligations.DrawNoticeEntersTheTable : Prop :=
  ∀ (s : State) (h : Header) (payload : List Byte) (r : Part), Hears h s r →
    (payload.length ≠ 3 → Takes (.drawNotice h payload) s (endOf (count .oddCode r))) ∧
      ∀ (x : ReceivedDraw) (d : Draw) (ds : List Draw), readDrawNotice payload = some x → d = ⟨h.station, x.cls, x.demand, 0⟩ →
        ds = r.regulator.draws →
          ((r.loader.config = none ∨ x.feed ≠ (cfg r).feed) → Takes (.drawNotice h payload) s (endOf r)) ∧
          (r.loader.config ≠ none → x.feed = (cfg r).feed →
            ∃ t : List Draw,
              Takes (.drawNotice h payload) s (endOf { r with regulator := { r.regulator with draws := t } }) ∧
                ((∃ e ∈ ds, e.station = h.station) → t = ds.filter (fun e => e.station ≠ h.station) ++ [d]) ∧
                ((∀ e ∈ ds, e.station ≠ h.station) →
                  (ds.length < 16 → t = ds ++ [d]) ∧
                  (16 ≤ ds.length → (∀ e ∈ ds, e.age = 0) → t = ds) ∧
                  (16 ≤ ds.length → ∀ (a b : List Draw) (e : Draw), ds = a ++ e :: b → 0 < e.age →
                    (∀ y ∈ a, y.age < e.age) → (∀ y ∈ b, y.age ≤ e.age) → t = a ++ b ++ [d])))

/-- R10, R158, R159, R179: LINE STATE. STOP sets the line-stop flag, freezes under freeze-on-stop and takes RUN to HOLD, where the
quiet count starts again (R49, log 43); RUN, outside DRY and with the stop input inactive, clears the flag, ends a freeze that a stop
brought, and takes HOLD with no flag left to RUN. In DRY it aborts the dry cycle first (its end as log 15 and log 17 say). -/
def Obligations.LineStateStopsAndRuns : Prop :=
  ∀ (s : State) (h : Header) (payload : List Byte) (r : Part), Hears h s r →
    (readLineState payload = none →
      Takes (.lineStateStop h payload) s (endOf (count .oddCode r)) ∧
        Takes (.lineStateRun h payload) s (endOf (count .oddCode r))) ∧
      (∀ cause : Byte, 1 ≤ cause.toNat → cause.toNat ≤ 3 →
        ∃ t : Part, Takes (.lineStateStop h [1, cause]) s (endOf t) ∧
          t.control = { r.control with mode := if r.control.mode = .run then .hold else r.control.mode, lineStop := true } ∧
          t.monitor =
            { r.monitor with
              frozen :=
                if r.control.lineStop = false ∧ freezeOnStop (cfg r) = true ∧ r.monitor.frozen = none then some .stop
                else r.monitor.frozen } ∧
          t.port = r.port ∧
          t.tracker = { r.tracker with quietCount := if r.control.mode = .run then 0 else r.tracker.quietCount } ∧
          t.sampling = r.sampling ∧ t.regulator = r.regulator ∧ t.dose = r.dose ∧
          t.sequencer.platen = r.sequencer.platen ∧ t.log = r.log ∧ t.responder = r.responder ∧ t.loader = r.loader ∧
          t.pins = r.pins) ∧
      (∀ cause : Byte, 1 ≤ cause.toNat → cause.toNat ≤ 3 → r.control.mode ≠ .dry → r.pins.stopInput = true →
        Takes (.lineStateRun h [2, cause]) s (endOf r)) ∧
      (∀ cause : Byte, 1 ≤ cause.toNat → cause.toNat ≤ 3 → r.control.mode ≠ .dry → r.pins.stopInput = false →
        ∃ t : Part, Takes (.lineStateRun h [2, cause]) s (endOf t) ∧
          t.control =
            { r.control with
              mode := if r.control.mode = .hold ∧ r.control.operatorHold = false then .run else r.control.mode,
              lineStop := false } ∧
          t.monitor =
            { r.monitor with
              frozen := if r.control.lineStop = true ∧ r.monitor.frozen = some .stop then none else r.monitor.frozen } ∧
          t.port = r.port ∧ t.tracker = r.tracker ∧ t.sampling = r.sampling ∧ t.regulator = r.regulator ∧ t.dose = r.dose ∧
          t.sequencer.platen = r.sequencer.platen ∧ t.log = r.log ∧ t.responder = r.responder ∧ t.loader = r.loader ∧
          t.pins = r.pins) ∧
      ∀ cause : Byte, 1 ≤ cause.toNat → cause.toNat ≤ 3 → r.control.mode = .dry →
        Takes (.lineStateRun h [2, cause]) s
          (finish
            (if r.pins.stopInput then abortDry false r else holdToRun (clearLineStop (abortDry false r))))

/-! ## Service requests -/

/-- R12, R188, R189: the tests before acceptance, in their order: an unknown code and a wrong number of argument bytes are answered BAD,
and in START every request but STATUS and READ CONFIG is REFUSED, as are CLEAR FAULT, RESYNC, REF CHECK, DRY START and DRY STOP wherever
their own conditions fail. Such a request changes nothing but the transmit queue its reply joins. -/
def Obligations.RequestsAnsweredBadOrRefused : Prop :=
  ∀ (s : State) (h : Header) (args : List Byte) (r : Part), Asks h s r →
    (∀ code : Byte, code = 0 ∨ 20 < code.toNat →
      Takes (.unknownRequest code h args) s (endOf (send (.serviceReply h.station code .bad []) r))) ∧
      (∀ x ∈ requestRows, args.length ≠ x.size →
        Takes (x.command h args) s (endOf (send (.serviceReply h.station (byteOf x.code) .bad []) r))) ∧
      (∀ x ∈ requestRows, args.length = x.size → x.code ≠ 1 → x.code ≠ 11 → r.control.mode = .start →
        Takes (x.command h args) s (endOf (send (.serviceReply h.station (byteOf x.code) .refused []) r))) ∧
      (args = [] →
        ((r.control.mode ≠ .fault ∨ r.pins.openSensor = false ∨ r.sampling.converterFault = true) →
          Takes (.clearFault h args) s (endOf (send (.serviceReply h.station 13 .refused []) r))) ∧
        ((r.control.mode ≠ .run ∧ r.control.mode ≠ .hold ∨ r.sequencer.platen ≠ .opened) →
          Takes (.resync h args) s (endOf (send (.serviceReply h.station 16 .refused []) r))) ∧
        ((r.control.mode ≠ .seek ∧ r.control.mode ≠ .hold ∨ r.sequencer.platen ≠ .opened ∨ r.sampling.check ≠ none) →
          Takes (.refCheck h args) s (endOf (send (.serviceReply h.station 17 .refused []) r))) ∧
        ((r.control.mode ≠ .hold ∨ r.control.lineStop = false ∨ r.sequencer.platen ≠ .opened) →
          Takes (.dryStart h args) s (endOf (send (.serviceReply h.station 18 .refused []) r))) ∧
        (r.control.mode ≠ .dry →
          Takes (.dryStop h args) s (endOf (send (.serviceReply h.station 19 .refused []) r))))

/-- R12, R13, R16, R50, R170, R190: STATUS and READ CONFIG, accepted in every mode. A STATUS reply shows, byte by byte, the state as it
stands and, under clear-on-status-read, clears the flags it shows; READ CONFIG returns up to 24 bytes of the block in force, of the
block as read, or zeros, and answers BAD to a part above 3. -/
def Obligations.StatusAndConfigurationAreRead : Prop :=
  ∀ (s : State) (h : Header) (r : Part), Asks h s r →
    (∃ d : List Byte, StatusLayout d r ∧
      Takes (.status h []) s
        (endOf
          (send (.serviceReply h.station 1 .done d)
            (if clearOnStatusRead (cfg r) then { r with control := { r.control with alarms := 0 } } else r)))) ∧
      ∀ k : Byte,
        (3 < k.toNat → Takes (.readConfig h [k]) s (endOf (send (.serviceReply h.station 11 .bad []) r))) ∧
          (k.toNat ≤ 3 →
            ∃ b : List Byte,
              (∀ c, r.loader.config = some c → b = blockBytes c) ∧
                (r.loader.config = none → ∀ x, r.loader.block = some x → b = x) ∧
                (r.loader.config = none → r.loader.block = none → b = List.replicate 95 0) ∧
                Takes (.readConfig h [k]) s
                  (endOf (send (.serviceReply h.station 11 .done (k :: (b.drop (24 * k.toNat)).take 24)) r)))

/-- R12, R14, R15, R70, R180, R185, R186: the other reading requests outside START. READ COUNTERS A takes and holds a snapshot, part B
reads and releases it, or a fresh one; READ LOG A removes nothing, part B drains the oldest entry; an empty log answers EMPTY with count
0; READ ROW answers BAD without H, outside the window and at or beyond n. Each reply is laid out byte by byte. -/
def Obligations.CountersLogAndRowsAreRead : Prop :=
  ∀ (s : State) (h : Header) (r : Part), Asks h s r → r.control.mode ≠ .start →
    (∃ d : List Byte, (r.monitor.counters.length = 7 → CountersLayoutA d r.monitor.counters) ∧
      Takes (.readCountersA h []) s
        (endOf
          (send (.serviceReply h.station 2 .done d)
            { r with monitor := { r.monitor with snapshot := some r.monitor.counters } }))) ∧
      (∃ d : List Byte,
        ((r.monitor.snapshot.getD r.monitor.counters).length = 7 →
          CountersLayoutB d (r.monitor.snapshot.getD r.monitor.counters)) ∧
        Takes (.readCountersB h []) s
          (endOf
            (send (.serviceReply h.station 3 .done d) { r with monitor := { r.monitor with snapshot := none } }))) ∧
      (r.log.entries = [] →
        Takes (.readLogA h []) s (endOf (send (.serviceReply h.station 8 .empty [0]) r)) ∧
          Takes (.readLogB h []) s (endOf (send (.serviceReply h.station 9 .empty [0]) r))) ∧
      (∀ (e : LogEntry) (es : List LogEntry), r.log.entries = e :: es →
        (∃ d : List Byte, LogLayoutA d (cfg r).lanes (es.length + 1) r.log.overflow e ∧
          Takes (.readLogA h []) s (endOf (send (.serviceReply h.station 8 .done d) r))) ∧
          ∃ d : List Byte, LogLayoutB d (cfg r).lanes es.length e ∧
            Takes (.readLogB h []) s
              (endOf (send (.serviceReply h.station 9 .done d) { r with log := { r.log with entries := es } }))) ∧
      ∀ hi lo lane : Byte,
        ((r.tracker.h = none ∨ (cfg r).lanes ≤ lane.toNat ∨
            (∃ head, r.tracker.h = some head ∧
              (tagDiff head (tagAt [hi, lo] 0) < 0 ∨ 47 < tagDiff head (tagAt [hi, lo] 0)))) →
          Takes (.readRow h [hi, lo, lane]) s (endOf (send (.serviceReply h.station 10 .bad []) r))) ∧
        (∀ (head : Tag) (a b : List RowRecord) (row : RowRecord) (e : LaneEntry), r.tracker.h = some head →
          0 ≤ tagDiff head row.tag → tagDiff head row.tag ≤ 47 → r.tracker.records = a ++ row :: b →
            (∀ y ∈ a, y.tag ≠ row.tag) → tagAt [hi, lo] 0 = row.tag → lane.toNat < (cfg r).lanes →
              row.lanes[lane.toNat]? = some e →
                ∃ d : List Byte, RowLayout d row lane.toNat e ∧
                  Takes (.readRow h [hi, lo, lane]) s (endOf (send (.serviceReply h.station 10 .done d) r)))

/-- R12, R18, R170, R173, R179, R181: the requests that set the monitor and clear flags, outside START, each answered DONE. Counter
values and wrap flags change at CLEAR COUNTERS alone; SET COUNTER clamps, writes six controls and clears the counter's edge memory;
CLEAR ALARMS clears what it names and, with STATION_CLASH, the clash count (whatever that flag held, log 36). The model's choice: the
effect comes before the reply joins, as R188 names them, "It takes effect, and its reply is built", so that TX_DROPPED and TX_OVERFLOW
at its joining in a full queue find the freeze, the cleared counters, the new controls or the cleared flags (log 38, unsafe there). -/
def Obligations.MonitorAndAlarmsAreSet : Prop :=
  ∀ (s : State) (h : Header) (r : Part), Asks h s r → r.control.mode ≠ .start →
    Takes (.freeze h []) s
        (endOf
          (send (.serviceReply h.station 5 .done []) { r with monitor := { r.monitor with frozen := some .request } })) ∧
      Takes (.thaw h []) s
        (endOf (send (.serviceReply h.station 6 .done []) { r with monitor := { r.monitor with frozen := none } })) ∧
      Takes (.clearCounters h []) s
        (endOf
          (send (.serviceReply h.station 7 .done [])
            { r with
              monitor :=
                { r.monitor with counters := r.monitor.counters.map (fun _ => { value := 0, wrap := false }) } })) ∧
      (∀ (i select mask hi lo controls : Byte) (k : Control) (ks : List Control),
        k =
          { select := min 28 select.toNat, mask := mask, threshold := hi.toNat * 256 + lo.toNat,
            invert := controls.getLsbD 2, edge := controls.getLsbD 1, enable := controls.getLsbD 0, memory := false } →
          ks.length = r.monitor.controls.length →
          (∀ j : Nat, j < ks.length →
            ks[j]? = if j = min 5 i.toNat then some k else r.monitor.controls[j]?) →
            Takes (.setCounter h [i, select, mask, hi, lo, controls]) s
              (endOf
                (send (.serviceReply h.station 4 .done (controlBytes (min 5 i.toNat) k))
                  { r with monitor := { r.monitor with controls := ks } }))) ∧
      ∀ hi lo : Byte,
        Takes (.clearAlarms h [hi, lo]) s
          (endOf
            (send
              (.serviceReply h.station 12 .done
                (bytes16 (r.control.alarms &&& ~~~BitVec.ofNat 16 (hi.toNat * 256 + lo.toNat)).toNat))
              { r with
                control :=
                  { r.control with alarms := r.control.alarms &&& ~~~BitVec.ofNat 16 (hi.toNat * 256 + lo.toNat) },
                port := { r.port with clashCount := if hi.getLsbD 1 then 0 else r.port.clashCount } }))

/-- R157, R158, R161: HOLD and RELEASE outside START. The flag changes; HOLD takes RUN to HOLD, RELEASE takes HOLD to RUN while the
line-stop flag is clear, and neither changes another mode. -/
def Obligations.HoldAndReleaseMoveRunAndHold : Prop :=
  ∀ (s : State) (h : Header) (r : Part), Asks h s r → r.control.mode ≠ .start →
    ∀ (hold : Bool) (t : Part) (code : Byte), (hold = true ∧ code = 14 ∨ hold = false ∧ code = 15) →
      t.control =
          { r.control with
            operatorHold := hold,
            mode :=
              if hold = true ∧ r.control.mode = .run then .hold
              else if hold = false ∧ r.control.mode = .hold ∧ r.control.lineStop = false then .run
              else r.control.mode } →
        t.sequencer =
            (if t.control.mode = r.control.mode then r.sequencer
            else { r.sequencer with dryTimer := none, dryDue := false }) →
          t = { r with control := t.control, sequencer := t.sequencer } →
            (hold = true → Takes (.hold h []) s (endOf (send (.serviceReply h.station code .done []) t))) ∧
              (hold = false → Takes (.release h []) s (endOf (send (.serviceReply h.station code .done []) t)))

/-- R47, R98, R163, R166: RESYNC and CLEAR FAULT, accepted. Where H is held a VOID NOTICE over H to H+47 joins the queue; then no H, no
record, no candidate and no pending realignment is held, both counts are 0, and the mode is SEEK. CLEAR FAULT also clears the fault
record and the close-timeout count and begins the listen period. Each is answered DONE (behind its notice, log 38). -/
def Obligations.ResyncAndClearFaultFlush : Prop :=
  ∀ (s : State) (h : Header) (r q : Part) (cause : VoidCause), Asks h s r →
    q =
      (match r.tracker.h with
        | some head => send (.voidNotice head (head + 47) (cfg r).stage cause) r
        | none => r) →
      ∀ k : Tracker,
        k =
          { q.tracker with
            h := none, records := [], candidate := none, candidateCount := 0, skew := none, pendingRealign := none,
            quietCount := 0 } →
          ((r.control.mode = .run ∨ r.control.mode = .hold) → r.sequencer.platen = .opened → cause = .resync →
            Takes (.resync h []) s
              (endOf
                (send (.serviceReply h.station 16 .done [])
                  { q with
                    tracker := k, control := { q.control with mode := .seek },
                    regulator := { r.regulator with idle := false },
                    sequencer := { r.sequencer with dryTimer := none, dryDue := false },
                    dose := { r.dose with underCount := 0 } }))) ∧
            (r.control.mode = .fault → r.pins.openSensor = true → r.sampling.converterFault = false →
              cause = .faultClear →
              Takes (.clearFault h []) s
                (endOf
                  (send (.serviceReply h.station 13 .done [])
                    { q with
                      tracker := k,
                      control :=
                        { q.control with
                          mode := .seek, fault := { code := 0, h := none, count := 0, further := 0 } },
                      regulator := { r.regulator with idle := false, listen := 2 },
                      sequencer := { r.sequencer with closeTimeouts := 0, dryTimer := none, dryDue := false },
                      dose := { r.dose with underCount := 0 } })))

/-- R90, R128, R129, R130, R162, R191: REF CHECK starts its check and holds its reply back; DRY START enters DRY and begins the first
dry cycle, whose settle end comes in the same event where the settle delay is 0 (log 26); DRY STOP aborts the cycle. The last two are
answered DONE. The abort, whatever brings it, leaves HOLD, no dry cycle and none due: SETTLE goes back to OPEN, CLOSING and DWELL take
the open command with every contact ended, OPENING goes on; and the entry is added, with DRY and ABORTED, and FORCED at a forced index,
where the close had been commanded and the entry was not added before (the lift sample of a lane that failed in its lag: log 47). -/
def Obligations.ChecksAndDryCyclesAreAsked : Prop :=
  ∀ (s : State) (h : Header) (r : Part), Asks h s r →
    ((r.control.mode = .seek ∨ r.control.mode = .hold) → r.sequencer.platen = .opened → r.sampling.check = none →
      Takes (.refCheck h []) s
        (endOf
          { r with
            responder := { r.responder with pendingCheck := some h.station },
            sampling := { r.sampling with check := some { ticks := 0, sum := 0, count := 0 } } })) ∧
      (r.control.mode = .hold → r.control.lineStop = true → r.sequencer.platen = .opened → ∀ y : Part,
        y =
          { r with
            control := { r.control with mode := .dry },
            regulator := { r.regulator with idle := false },
            sequencer :=
              { r.sequencer with
                platen := .settle, settleTimer := some (cfg r).settle, dryTimer := some (cfg r).dryPeriod,
                dryDue := false, dry := some { tag := r.tracker.h.getD 0, logged := false } } } →
        ((cfg r).settle ≠ 0 →
          Takes (.dryStart h []) s (endOf (send (.serviceReply h.station 18 .done []) y))) ∧
        ((cfg r).settle = 0 → (∃ i, i < (cfg r).lanes ∧ laneUnfit r i = false) →
          Takes (.dryStart h []) s
            (endOf
              (send (.serviceReply h.station 18 .done [])
                { y with
                  sequencer :=
                    { y.sequencer with
                      platen := .closing, settleTimer := none, closeTimer := some (cfg r).closeTimeout,
                      dwellLimit := (cfg r).nconf },
                  dose :=
                    { r.dose with
                      lanes :=
                        (List.range 8).map
                          (fun i => closeLane (decide (i < (cfg r).lanes) && !laneUnfit r i) 0),
                      closeCommanded := true, samples := 0, lost := 0, drift := false,
                      scaleAtStart := r.regulator.scale, cut := false } }))) ∧
        ((cfg r).settle = 0 → (∀ i, i < (cfg r).lanes → laneUnfit r i = true) →
          Takes (.dryStart h []) s
            (endOf
              (send (.serviceReply h.station 18 .done [])
                { y with
                  sequencer := { y.sequencer with platen := .opened, settleTimer := none, dry := none } })))) ∧
      (r.control.mode = .dry → r.sequencer.platen = .settle → r.sequencer.dry ≠ none →
        Takes (.dryStop h []) s
          (endOf
            (send (.serviceReply h.station 19 .done [])
              { r with
                control := { r.control with mode := .hold }, regulator := { r.regulator with idleClock := 0 },
                sequencer :=
                  { r.sequencer with
                    platen := .opened, settleTimer := none, dry := none, dryTimer := none, dryDue := false } }))) ∧
      (r.control.mode = .dry →
        Takes (.dryStop h []) s (finish (send (.serviceReply h.station 19 .done []) (abortDry false r)))) ∧
      ∀ (p t : Part) (forced : Bool), p.control.mode = .dry → t = abortDry forced p →
        t.control = { p.control with mode := .hold, alarms := t.control.alarms } ∧
          t.regulator = { p.regulator with idleClock := 0 } ∧ t.port = p.port ∧ t.sampling = p.sampling ∧
          t.tracker = { p.tracker with chatter := t.tracker.chatter } ∧ t.responder = p.responder ∧ t.loader = p.loader ∧
          t.pins = p.pins ∧
          (p.sequencer.dry = none →
            t.sequencer = { p.sequencer with dryTimer := none, dryDue := false } ∧ t.dose = p.dose ∧
              t.monitor = p.monitor ∧ t.log = p.log ∧ t.control.alarms = p.control.alarms ∧
              t.tracker.chatter = p.tracker.chatter) ∧
          (p.sequencer.dry ≠ none → p.sequencer.platen = .settle →
            t.sequencer =
                { p.sequencer with
                  platen := .opened, settleTimer := none, dry := none, dryTimer := none, dryDue := false } ∧
              t.dose = p.dose ∧ t.monitor = p.monitor ∧ t.log = p.log ∧ t.control.alarms = p.control.alarms ∧
              t.tracker.chatter = p.tracker.chatter) ∧
          (p.sequencer.dry ≠ none → p.sequencer.platen = .closing ∨ p.sequencer.platen = .dwell →
            t.sequencer =
                { p.sequencer with
                  platen := .opening, closeTimer := none, openTimer := some (cfg p).openTimeout, dry := none,
                  dryTimer := none, dryDue := false } ∧
              t.dose = { p.dose with lanes := p.dose.lanes.map (fun l => { l with contact := .ended }) } ∧
              t.monitor = occur .dwellLength p.dose.samples p.monitor) ∧
          (p.sequencer.dry ≠ none → p.sequencer.platen = .opening →
            t.sequencer = { p.sequencer with dry := none, dryTimer := none, dryDue := false } ∧ t.dose = p.dose ∧
              t.monitor = p.monitor) ∧
          ∀ (cycle : DryCycle) (x : LogEntry), p.sequencer.dry = some cycle →
            p.sequencer.platen = .closing ∨ p.sequencer.platen = .dwell ∨ p.sequencer.platen = .opening →
            EntryIs x p cycle.tag true true forced →
              (cycle.logged = true →
                t.log = p.log ∧ t.control.alarms = p.control.alarms ∧ t.tracker.chatter = p.tracker.chatter) ∧
              (cycle.logged = false →
                LoggedIn t.log x p ∧ t.tracker.chatter = false ∧
                  t.control.alarms =
                    (if p.log.entries.length < 64 then p.control.alarms
                    else (raise .logOverflow p).control.alarms))

/-- R20, R22, R192, R194: RESTART outside START is answered DONE and waits for that reply; where a full queue drops the reply at its
joining, the restart is performed at once (at the end of the same event, log 13). While a restart waits, a second RESTART is answered
DONE as well and changes nothing of it: its own reply, queued or dropped, is not the one that is waited for. -/
def Obligations.RestartWaitsOrIsPerformed : Prop :=
  ∀ (s : State) (h : Header) (r : Part) (f g : TxFrame), Asks h s r → r.control.mode ≠ .start →
    g = buildFrame (.serviceReply h.station 20 .done []) r → f = { g with restartReply := true } →
      (NoRestart r → r.port.queue.length < 16 →
        Takes (.restart h []) s
          (drive
            (tryBegin
              { r with
                responder := { r.responder with pendingRestart := true },
                port := { r.port with queue := place f r.port.queue } }))) ∧
        (NoRestart r → 16 ≤ r.port.queue.length → (∀ x ∈ r.port.queue, x.restartReply = false) → r.pins.resetInput = false →
          Takes (.restart h []) s
            (drive
              { Part.reset with
                port := { LinePort.reset with waitQuiet := onLine (tryBegin r) },
                sampling := Sampling.reset r.sampling.factory,
                sequencer := { Sequencer.reset with platen := if r.pins.openSensor then .opened else .opening },
                monitor :=
                  { counters := (count .txDropped r).monitor.counters,
                    controls := r.monitor.controls.map (fun t => { t with memory := false }), frozen := none,
                    snapshot := none },
                log := r.log, loader := { Loader.reset with phase := .crystal, straps := r.pins.straps },
                pins := r.pins })) ∧
        (r.responder.pendingRestart = true → g.restartReply = false ∧
          (r.port.queue.length < 16 →
            Takes (.restart h []) s
              (endOf (tryBegin { r with port := { r.port with queue := place g r.port.queue } }))) ∧
          (16 ≤ r.port.queue.length → Takes (.restart h []) s (endOf (raise .txOverflow (count .txDropped r)))))

/-! ## Index edges -/

/-- R21, R27 to R31, R38, R40, R49, R95: an edge is ignored in START; sooner than the minimum interval after the last accepted one it is
chatter, counted and marked, and no more; any other is accepted: it records its time and the period, counts, ages the transmit queue,
restarts the idle clock and clears the mark. While no H is held it moves only the alignment candidate, in SEEK. (A clock reading below
the last is taken as the last: log 5.) -/
def Obligations.IndexEdgesAreTimed : Prop :=
  ∀ (s : State) (now ms : Nat) (r : Part), Finds s r → ms = max now r.tracker.msCount →
    (r.control.mode = .start → Takes (.indexEdge now) s (endOf r)) ∧
      (r.control.mode ≠ .start → ∀ e, r.tracker.lastEdge = some e → ms - e < (cfg r).minIndex →
        Takes (.indexEdge now) s
          (endOf (count .indexChatter { r with tracker := { r.tracker with msCount := ms, chatter := true } }))) ∧
      (r.control.mode ≠ .start → r.tracker.h = none →
        (∀ e, r.tracker.lastEdge = some e → (cfg r).minIndex ≤ ms - e) → ∀ q : Part, q = ageQueue (count .index r) →
          Takes (.indexEdge now) s
            (endOf
              { q with
                tracker :=
                  { r.tracker with
                    msCount := ms, lastEdge := some ms,
                    lastPeriod :=
                      (match r.tracker.lastEdge with
                        | some e => some (min 65535 (ms - e))
                        | none => r.tracker.lastPeriod),
                    indexCount := r.tracker.indexCount + 1, chatter := false,
                    quietCount := if r.control.mode = .run then min 255 (r.tracker.quietCount + 1) else 0,
                    candidate :=
                      if r.control.mode = .seek then r.tracker.candidate.map (fun c => c + 1) else r.tracker.candidate },
                regulator := { r.regulator with idleClock := 0, idle := false } }))

/-- R34 to R37, R113, R114, R130, R146: an accepted index with H held and the platen OPEN or in SETTLE. A head row not yet concluded is
reported, every lane SKIPPED with own dose 0, MISSED in RUN and STATION in any other mode; the head leaves, H rises by 1, an empty
record enters; in RUN SETTLE begins or begins again (a settle delay of 0 ends in the same event), in DRY the dry cycle is aborted, in
any other mode the platen is OPEN. The model's choices: the edge's time, the larger of the count read and the last (log 5, unsafe),
ageing before the conclusion (log 12), and a settle delay of 0 (log 26). -/
def Obligations.AcceptedIndexAdvancesTheQueue : Prop :=
  ∀ (s : State) (now ms : Nat) (r q u v x : Part) (head : Tag) (reason : Reason), Finds s r →
    ms = max now r.tracker.msCount → r.control.mode ≠ .start → r.tracker.h = some head →
    (∀ e, r.tracker.lastEdge = some e → (cfg r).minIndex ≤ ms - e) →
    (r.sequencer.platen = .opened ∨ r.sequencer.platen = .settle) →
    reason = (if r.control.mode = .run then .missed else .station) → q = ageQueue (count .index r) →
    u =
      { q with
        tracker :=
          { r.tracker with
            msCount := ms, lastEdge := some ms,
            lastPeriod :=
              (match r.tracker.lastEdge with
                | some e => some (min 65535 (ms - e))
                | none => r.tracker.lastPeriod),
            indexCount := r.tracker.indexCount + 1,
            quietCount := if r.control.mode = .run then min 255 (r.tracker.quietCount + 1) else 0 },
        regulator := { r.regulator with idleClock := 0, idle := false } } →
    v = concludeHead (.retired reason) u →
    x =
      { v with
        tracker :=
          { v.tracker with
            h := some (head + 1), chatter := false,
            records := v.tracker.records.drop 1 ++ [freshRecord (cfg r) (head + 48)] } } →
      (r.control.mode = .run →
        ∀ y : Part,
          y = { x with sequencer := { r.sequencer with platen := .settle, settleTimer := some (cfg r).settle } } →
            Takes (.indexEdge now) s (endOf (if (cfg r).settle = 0 then settleRow y else y))) ∧
        (r.control.mode ≠ .run → r.control.mode ≠ .dry →
          Takes (.indexEdge now) s
            (endOf { x with sequencer := { r.sequencer with platen := .opened, settleTimer := none } })) ∧
        (r.control.mode = .dry → Takes (.indexEdge now) s (endOf (abortDry false x))) ∧
        v.tracker.records.drop 1 = r.tracker.records.drop 1 ∧
        ∀ (row : RowRecord) (rest : List RowRecord), r.tracker.records = row :: rest →
          (row.concluded = true → v = u) ∧
            (row.concluded = false →
              v.port =
                (send
                  (.sealReport
                    { tag := row.tag, stage := (cfg r).stage, final := (cfg r).stage == (cfg r).stages, noContact := false,
                      forced := false, drift := false,
                      lanes :=
                        row.lanes.map
                          (fun e =>
                            { dose := 0, verdict := .skipped, reason := reason, assumed := e.assumed, voided := e.voided,
                              sensor := e.sensor }) })
                  u).port)

/-- R36, R37, R125, R130, R159, R164, R165: an accepted index with H held that finds the platen in CLOSING, DWELL or OPENING is a
forced index. A head row not yet concluded concludes with the forced flag: of an unfrozen one every lane is SKIPPED STATION, one whose
close was commanded enters the dwell log with FORCED; what each lane of a concluded row holds is that of ConclusionFilesTheRow. H
rises, the open command stands, a dry cycle ends with its entry DRY, ABORTED and FORCED, FORCED_INDEX is raised, and FAULT is entered
with code 2 and a LINE STATE STOP queued, or counted as a further fault. The model's choices: the edge's time, the larger of the count
read and the last (log 5, unsafe), ageing before the conclusion (log 12), the end of the event (log 15), ABORTED for a row cut in
CLOSING (log 17, unsafe), the no-contact flag of a head never frozen, clear (log 19, unsafe), its reason STATION, in RUN too (log 46,
unsafe), and the lift sample of a lane that failed in its lag (log 47, unsafe). -/
def Obligations.ForcedIndexFaults : Prop :=
  ∀ (s : State) (now ms : Nat) (r q u v x : Part) (head : Tag), Finds s r → ms = max now r.tracker.msCount →
    r.control.mode ≠ .start → r.tracker.h = some head →
    (∀ e, r.tracker.lastEdge = some e → (cfg r).minIndex ≤ ms - e) →
    r.sequencer.platen ≠ .opened → r.sequencer.platen ≠ .settle → q = ageQueue (count .index r) →
    u =
      { q with
        tracker :=
          { r.tracker with
            msCount := ms, lastEdge := some ms,
            lastPeriod :=
              (match r.tracker.lastEdge with
                | some e => some (min 65535 (ms - e))
                | none => r.tracker.lastPeriod),
            indexCount := r.tracker.indexCount + 1,
            quietCount := if r.control.mode = .run then min 255 (r.tracker.quietCount + 1) else 0 },
        regulator := { r.regulator with idleClock := 0, idle := false } } →
    v = concludeHead .forcedIndex u →
    x =
      { v with
        tracker :=
          { v.tracker with
            h := some (head + 1), records := v.tracker.records.drop 1 ++ [freshRecord (cfg r) (head + 48)] } } →
      (∃ t : Part, Takes (.indexEdge now) s (finish t) ∧ t.control.mode = .fault ∧ alarmSet .forcedIndex t = true ∧
        t.tracker.h = some (head + 1) ∧ t.tracker.indexCount = r.tracker.indexCount + 1 ∧ t.tracker.lastEdge = some ms ∧
        t.tracker.records = r.tracker.records.drop 1 ++ [freshRecord (cfg r) (head + 48)] ∧
        t.sequencer.platen = .opening ∧
        (r.sequencer.platen ≠ .opening →
          t.sequencer.openTimer = some (cfg r).openTimeout ∧ t.sequencer.closeTimer = none ∧
            ∀ l ∈ t.dose.lanes, l.contact = .ended) ∧
        (r.sequencer.platen = .opening → t.sequencer.openTimer = r.sequencer.openTimer) ∧
        (r.control.mode ≠ .fault →
          t.sequencer.dry = none ∧ t.sequencer.dryTimer = none ∧
          t.control.fault = { code := 2, h := some (head + 1), count := r.tracker.indexCount + 1, further := 0 }) ∧
        (r.control.mode = .fault →
          t.control.fault = { r.control.fault with further := min 255 (r.control.fault.further + 1) }) ∧
        t.port = (if r.control.mode = .fault then x.port else (send (.lineStop .fault) x).port) ∧
        (r.sequencer.dry = none → t.log = v.log) ∧
        (∀ (cycle : DryCycle) (y : LogEntry), r.control.mode = .dry → r.sequencer.dry = some cycle →
          EntryIs y x cycle.tag true true true →
            (cycle.logged = true → t.log = v.log) ∧ (cycle.logged = false → LoggedIn t.log y v)) ∧
        t.control.lineStop = r.control.lineStop ∧ t.control.operatorHold = r.control.operatorHold ∧
        t.sampling = r.sampling ∧ t.responder = r.responder ∧ t.loader = r.loader ∧ t.pins = r.pins) ∧
      ∀ (row : RowRecord) (rest : List RowRecord), r.tracker.records = row :: rest →
        (row.concluded = true → v = u) ∧
          (row.concluded = false → row.frozen = false →
            v.log = r.log ∧
              v.port =
                (send
                  (.sealReport
                    { tag := row.tag, stage := (cfg r).stage, final := (cfg r).stage == (cfg r).stages, noContact := false,
                      forced := true, drift := false,
                      lanes :=
                        row.lanes.map
                          (fun e =>
                            { dose := 0, verdict := .skipped, reason := .station, assumed := e.assumed, voided := e.voided,
                              sensor := e.sensor }) })
                  u).port) ∧
          (row.concluded = false → row.frozen = true → r.dose.closeCommanded = true → r.sequencer.dry = none →
            ∀ y : LogEntry, EntryIs y u row.tag false r.dose.cut true → LoggedIn v.log y u) ∧
          (row.concluded = false → row.frozen = true → r.dose.closeCommanded = false ∨ r.sequencer.dry ≠ none →
            v.log = r.log) ∧
          (row.concluded = false → row.frozen = true →
            ∃ done : RowRecord,
              v.tracker.records = done :: rest ∧ done.lanes.length = row.lanes.length ∧
                v.port =
                  (send
                    (.sealReport
                      { tag := row.tag, stage := (cfg r).stage, final := (cfg r).stage == (cfg r).stages,
                        noContact :=
                          decide (r.dose.closeCommanded = true ∧ r.sequencer.dry = none ∧ r.dose.samples = 0),
                        forced := true,
                        drift := decide (r.dose.closeCommanded = true ∧ r.sequencer.dry = none ∧ r.dose.drift = true),
                        lanes :=
                          done.lanes.map
                            (fun e =>
                              { dose := e.ownDose, verdict := e.verdict, reason := e.reason, assumed := e.assumed,
                                voided := e.voided, sensor := e.sensor }) })
                    u).port)

/-! ## The platen cycle -/

/-- R63, R65, R69, R115, R116, R126, R129, R136: the settle end. A row cycle freezes the head's plan: with a lane PRESS the close is
commanded, with the aims of the plan; with none the row concludes and the platen is OPEN, as always in HOLD, DRY and FAULT. A dry cycle
closes on every fit lane in use, for Nconf samples, and ends where there is none (log 37). That a SETTLE_END with no settle running
changes nothing is the model's choice (log 3). -/
def Obligations.SettleEndClosesOrConcludes : Prop :=
  ∀ (s : State) (r : Part), Finds s r →
    (r.sequencer.platen ≠ .settle ∨ r.sequencer.settleTimer = none → Takes .settleEnd s (endOf r)) ∧
      (r.sequencer.platen = .settle → r.sequencer.settleTimer ≠ none → r.sequencer.dry = none →
        ∀ (row fixed : RowRecord) (rest : List RowRecord), r.tracker.records = row :: rest → fixed = freezeRecord r row →
          ((∀ e ∈ fixed.lanes, e.plan ≠ .press) →
            Takes .settleEnd s
              (endOf
                (backToOpen
                  (concludeHead .settleEnd
                    (noClose { r with tracker := { r.tracker with records := fixed :: rest } }))))) ∧
          ((∃ e ∈ fixed.lanes, e.plan = .press) →
            Takes .settleEnd s
              (endOf
                { r with
                  tracker := { r.tracker with records := fixed :: rest },
                  sequencer :=
                    { r.sequencer with
                      platen := .closing, settleTimer := none, closeTimer := some (cfg r).closeTimeout,
                      dwellLimit := dwellLimitOf (cfg r) r.tracker.lastPeriod },
                  dose :=
                    { r.dose with
                      lanes :=
                        (List.range 8).map
                          (fun i => closeLane (pressOf fixed i) (aimAt fixed i)),
                      closeCommanded := true, samples := 0, lost := 0, drift := false,
                      scaleAtStart := r.regulator.scale, cut := false } })) ∧
          ((r.control.mode = .hold ∨ r.control.mode = .dry ∨ r.control.mode = .fault) →
            ∀ e ∈ fixed.lanes, e.plan = .holdOff ∧ e.planReason = .station ∧ e.aim = 0)) ∧
      (r.sequencer.platen = .settle → r.sequencer.settleTimer ≠ none → r.sequencer.dry ≠ none →
        ((∃ i, i < (cfg r).lanes ∧ laneUnfit r i = false) →
          Takes .settleEnd s
            (endOf
              { r with
                sequencer :=
                  { r.sequencer with
                    platen := .closing, settleTimer := none, closeTimer := some (cfg r).closeTimeout,
                    dwellLimit := (cfg r).nconf },
                dose :=
                  { r.dose with
                    lanes :=
                      (List.range 8).map
                        (fun i => closeLane (decide (i < (cfg r).lanes) && !laneUnfit r i) 0),
                    closeCommanded := true, samples := 0, lost := 0, drift := false,
                    scaleAtStart := r.regulator.scale, cut := false } })) ∧
        ((∀ i, i < (cfg r).lanes → laneUnfit r i = true) →
          Takes .settleEnd s
            (endOf
              (beginDue
                { r with sequencer := { r.sequencer with platen := .opened, settleTimer := none, dry := none } }))))

/-- R65: the first row of the hold-off table whose condition holds for the lane at the freeze gives its plan and reason; a PRESS lane
keeps the aim computed, any other aim 0. The freeze also fixes the lane's flags: voided for an upstream stage in the upstream-voided
set, assumed for one that is neither there nor holds an entry. -/
def Obligations.PlanIsTheFirstMatchingRow : Prop :=
  ∀ (p : Part) (row : RowRecord) (i : Nat) (e x : LaneEntry), row.lanes[i]? = some e →
    (freezeRecord p row).lanes[i]? = some x →
      (x.assumed = true ↔
          ∃ j, 1 ≤ j ∧ j < (cfg p).stage ∧ j ∉ row.upstreamVoided ∧ ∀ c ∈ e.contributions, c.stage ≠ j) ∧
        (x.voided = true ↔ ∃ j, 1 ≤ j ∧ j < (cfg p).stage ∧ j ∈ row.upstreamVoided) ∧
        x.aim = (if x.plan = .press then aimOf (cfg p) row e else 0) ∧
        ∃ rows : List (Bool × Plan × Reason),
          rows =
              [(p.control.mode == .hold || p.control.mode == .dry || p.control.mode == .fault, .holdOff, .station),
                ((laneChannel p i).isOpen || (laneChannel p i).overheat, .holdOff, .noHeat),
                (e.contributions.any (fun c => c.verdict == .skipped), .holdOff, .upstream),
                (e.contributions.any (fun c => c.verdict == .over), .holdOff, .overdose),
                (e.card == some .missing || e.card == some .skewed, .holdOff, .noCard),
                (e.card == none && !cardUnknownPress (cfg p), .holdOff, .unknown),
                (e.formed == some .bad, .holdOff, .badForm), (e.load == some .over, .holdOff, .crush),
                (e.load == none && loadUnknownHold (cfg p), .holdOff, .unknown),
                (aimOf (cfg p) row e == 0, .notPressed, .notNeeded), (true, .press, .none)] ∧
            (rows.find? Prod.fst).map Prod.snd = some (x.plan, x.planReason)

/-- R73 to R76, R81, R83, R86, R93, R95, R100, R109, R117 to R119, R121, R138 to R142, R168, R178: one sample tick. While a
configuration is in force the channels and the pressure are taken, each from the first 2^a of its readings, or the reference in a
check; heaters of unfit lanes are cut; contact makes the platen enter DWELL; a dwell sample ends the contact of a lane whose channel
fails and gives every other lane in contact or lag its increment and its drift mark, tests for the lift and lowers a lag; in CLOSING a
channel failure ends contact; once every lane has ended, a row cycle is opened; level alarms, idle clock, period count and counter 6
follow. SUPPLY_SHORT waits for a period end of the tick. Without a configuration nothing happens. (Readings carried: log 44; a lag
that reaches 0: log 2; dry cycles do not open early: log 16; the mark of a sample taken: log 18, unsafe; what reads f: log 21; order
within the tick: log 22; a channel failing at contact: log 34.) -/
def Obligations.SampleTickSamplesAndIntegrates : Prop :=
  ∀ (s : State) (conv : Conversions) (r : Part), Finds s r →
    (r.loader.config = none → Takes (.sampleTick conv) s (endOf r)) ∧
      ∀ (k : Configuration) (t : Part) (contact : Bool), r.loader.config = some k → t = tick conv r →
        contact = (r.pins.closedSensor && decide (k.pmin ≤ t.sampling.pressure)) →
        Takes (.sampleTick conv) s (finish t) ∧ t.tracker = r.tracker ∧ t.port = r.port ∧ t.log = r.log ∧
          t.loader = r.loader ∧ t.responder = r.responder ∧ t.pins = r.pins ∧
          t.control =
            (raiseIf (decide (t.regulator.ticks < 32 ∧ r.regulator.scale < 256)) .supplyShort
              (raiseIf (decide (16 ≤ r.tracker.quietCount)) .lineQuiet
                (raiseIf ((List.range k.lanes).any (fun i => (laneChannel t i).overheat)) .overheat
                  (raiseIf ((List.range k.lanes).any (fun i => (laneChannel t i).isOpen)) .sensorOpen r)))).control ∧
          (t.regulator.ticks < 32 → r.regulator.scale < 256 → alarmSet .supplyShort t = true) ∧
          t.regulator =
            { r.regulator with
              ticks := min 32 (r.regulator.ticks + 1), heaters := t.regulator.heaters,
              idleClock :=
                if (r.control.mode = .run ∨ r.control.mode = .hold) ∧ r.regulator.idle = false then
                  r.regulator.idleClock + 2
                else r.regulator.idleClock } ∧
          t.regulator.heaters.length = r.regulator.heaters.length ∧
          (∀ (i : Nat) (x y : Heater), r.regulator.heaters[i]? = some x → t.regulator.heaters[i]? = some y →
            y.duty = x.duty ∧ y.applied = x.applied ∧ y.seen = y.on ∧
              (y.on = true ↔
                x.on = true ∧ (laneChannel t i).isOpen = false ∧ (laneChannel t i).overheat = false)) ∧
          (r.monitor.frozen = none → r.monitor.controls.length = 6 →
            t.monitor.counters[6]? = r.monitor.counters[6]?.map (fun c => addTo c 1)) ∧
          (∀ c : RefCheck, r.sampling.check = some c →
            t.sampling =
              { r.sampling with
                check :=
                  some
                    { ticks := min 10 (c.ticks + 1), sum := c.sum + conv.reference.sum,
                      count := c.count + conv.reference.length } }) ∧
          (r.sampling.check = none →
            t.sampling.pressure = pressureOf k (conv.pressure.take (2 ^ k.averaging)) ∧
              t.sampling.channels.length = r.sampling.channels.length ∧ t.sampling.drift = r.sampling.drift ∧
              ∀ (i : Nat) (x y : Channel) (n : Nat) (m : List Conversion), r.sampling.channels[i]? = some x →
                t.sampling.channels[i]? = some y → m = (conv.thermo.getD i []).take (2 ^ k.averaging) →
                n = temperatureOf k i (averageOf k m) → i < k.lanes →
                  (flagged m = true → y = { x with isOpen := true, recovery := 0 }) ∧
                  (flagged m = false → x.isOpen = true → x.recovery < 15 → y = { x with recovery := x.recovery + 1 }) ∧
                  (flagged m = false → x.isOpen = false ∨ 15 ≤ x.recovery →
                    y.temp = n ∧ y.isOpen = false ∧ y.recovery = 0 ∧
                      (y.overheat = true ↔ if x.overheat then k.tlimit ≤ n + 40 else k.tlimit ≤ n))) ∧
          (r.sequencer.platen ≠ .closing → r.sequencer.platen ≠ .dwell →
            t.sequencer = r.sequencer ∧ t.dose = r.dose) ∧
          (∀ q : Sequencer,
            q =
              (if r.sequencer.platen = .closing ∧ contact = true then
                { r.sequencer with platen := .dwell, closeTimer := none, closeTimeouts := 0 }
              else r.sequencer) →
            (r.sequencer.platen = .closing ∨ r.sequencer.platen = .dwell) →
              ((r.sequencer.dry = none ∧ ∀ l ∈ t.dose.lanes, l.contact = .ended) →
                t.sequencer =
                  { q with platen := .opening, closeTimer := none, openTimer := some k.openTimeout }) ∧
              (¬(r.sequencer.dry = none ∧ ∀ l ∈ t.dose.lanes, l.contact = .ended) → t.sequencer = q)) ∧
          (r.sequencer.platen = .closing → contact = false →
            t.dose = { r.dose with lanes := t.dose.lanes } ∧ t.dose.lanes.length = r.dose.lanes.length ∧
              ∀ (i : Nat) (l m : LaneDose), r.dose.lanes[i]? = some l → t.dose.lanes[i]? = some m →
                (l.contact = .ended ∨ (laneChannel t i).isOpen = false → m = l) ∧
                (l.contact ≠ .ended → (laneChannel t i).isOpen = true →
                  m = { l with contact := .ended, sensorEnd := true })) ∧
          ((r.sequencer.platen = .dwell ∨ (r.sequencer.platen = .closing ∧ contact = true)) →
            t.dose =
                { r.dose with
                  lanes := t.dose.lanes, samples := r.dose.samples + 1,
                  lost := if t.sampling.pressure < k.pmin then min 255 (r.dose.lost + 1) else r.dose.lost,
                  drift := r.dose.drift || r.sampling.drift,
                  scaleAtStart :=
                    if r.sequencer.platen = .closing then r.regulator.scale else r.dose.scaleAtStart } ∧
              t.dose.lanes.length = r.dose.lanes.length ∧
              ∀ (i inc : Nat) (l m w : LaneDose), r.dose.lanes[i]? = some l → t.dose.lanes[i]? = some m →
                inc = increment k (laneChannel t i).temp (contactWeight k t.sampling.pressure) →
                w =
                  { l with
                    acc := min 1048575 (l.acc + inc), drift := l.drift || r.sampling.drift, sampled := true } →
                  (l.contact = .ended → m = l) ∧
                  (l.contact ≠ .ended → (laneChannel t i).isOpen = true →
                    m = { l with contact := .ended, sensorEnd := true }) ∧
                  (∀ lag : Nat, l.contact = .lag lag → (laneChannel t i).isOpen = false →
                    m = { w with contact := .lag (lag - 1) }) ∧
                  (l.contact = .inContact → (laneChannel t i).isOpen = false →
                    (r.sequencer.dry = none → l.aim ≤ w.acc + k.lead * inc →
                      m =
                        { w with
                          lift := some (r.dose.samples + 1),
                          contact := if k.lead = 0 then .ended else .lag k.lead }) ∧
                    (r.sequencer.dry ≠ none ∨ w.acc + k.lead * inc < l.aim → m = w)))

/-- R81, R119, R129, R141, R143, R152: the events that a tick makes due in a cycle, each without effect where it is not due (log 3): the
end of a lag, the dwell limit, the staggered lifts and the end of a dry dwell (log 16); and a recovery given by itself, from the first
2^a of its readings (log 44). -/
def Obligations.DueCycleEvents : Prop :=
  ∀ (s : State) (p : Part), p = s.part →
    (∀ (a b : List LaneDose) (l : LaneDose) (q : Part), p.dose.lanes = a ++ l :: b →
      q = { p with dose := { p.dose with lanes := a ++ { l with contact := .ended } :: b } } →
        (l.contact = .lag 0 →
          Takes (.lagEnd a.length) s
            (finish
              (if p.sequencer.platen = .dwell ∧ p.sequencer.dry = none ∧ (∀ m ∈ a ++ b, m.contact = .ended) then
                openCommand q
              else q))) ∧
        (l.contact ≠ .lag 0 → Takes (.lagEnd a.length) s (finish p))) ∧
      (if p.sequencer.platen = .dwell ∧ p.sequencer.dry = none ∧ p.sequencer.dwellLimit ≤ p.dose.samples then
        Takes .dwellLimit s (finish (openCommand p))
      else Takes .dwellLimit s (finish p)) ∧
      (if p.sequencer.platen = .dwell ∧ p.sequencer.dry ≠ none ∧ (cfg p).nconf ≤ p.dose.samples then
        Takes .dryDwellEnd s (finish (openCommand p))
      else Takes .dryDwellEnd s (finish p)) ∧
      (∀ (a b : List LaneDose) (l : LaneDose), p.dose.lanes = a ++ l :: b →
        if p.sequencer.platen = .dwell ∧ p.sequencer.dry ≠ none ∧ l.contact = .inContact ∧ a.length < (cfg p).lanes ∧
            (cfg p).nconf * (a.length + 1) / ((cfg p).lanes + 1) ≤ p.dose.samples then
          Takes (.dryLiftCommand a.length) s
            (finish
              { p with
                dose :=
                  { p.dose with
                    lanes :=
                      a ++
                        { l with
                          lift := some p.dose.samples,
                          contact := if (cfg p).lead = 0 then .ended else .lag (cfg p).lead } :: b } })
        else Takes (.dryLiftCommand a.length) s (finish p)) ∧
      ((openCommand p).sequencer =
          { p.sequencer with platen := .opening, closeTimer := none, openTimer := some (cfg p).openTimeout } ∧
        (openCommand p).dose = { p.dose with lanes := p.dose.lanes.map (fun l => { l with contact := .ended }) } ∧
        (openCommand p).monitor = occur .dwellLength p.dose.samples p.monitor) ∧
      ∀ (r : Part) (conv m : List Conversion) (a b : List Channel) (x : Channel), Finds s r →
        m = conv.take (2 ^ (cfg r).averaging) → r.sampling.channels = a ++ x :: b →
          if r.loader.config ≠ none ∧ r.sampling.check = none ∧ a.length < (cfg r).lanes ∧ x.isOpen = true ∧
              x.recovery = 15 ∧ flagged m = false then
            Takes (.openRecovery a.length conv) s
              (endOf
                { r with
                  sampling :=
                    { r.sampling with channels := a ++ takeTemperature (cfg r) a.length m x :: b } })
          else Takes (.openRecovery a.length conv) s (endOf r)

/-- R86 to R91, R93, R95, R99, R100, R104, R109, R110, R156, R160, R168, R191, R200: the ends of a reference check, of the regulation and
budget periods (log 39), of a heater's on-time and of the idle timeout, each without effect where it is not due (log 3). A start that the
check completes leaves SEEK, the listen period begun, and takes a stop input that is active as an activation. A period begins with every
lane's applied duty floor(d × f / 256), on for it; after a budget period end SUPPLY_SHORT is raised by the new f (log 21). The heaters
that a converter fault puts out at the tick are not on in the 2 ms that follow. -/
def Obligations.DueUnitEvents : Prop :=
  ∀ (s : State) (p : Part), p = s.part →
    (∀ (c : RefCheck) (dev : Nat) (answer : Part → Part), p.sampling.check = some c → 10 ≤ c.ticks →
      dev = max (c.sum / c.count) p.sampling.factory - min (c.sum / c.count) p.sampling.factory →
      (∀ q : Part,
        answer q =
          match q.responder.pendingCheck with
          | some w =>
            send (.serviceReply w 17 .done []) { q with responder := { q.responder with pendingCheck := none } }
          | none => q) →
        (dev ≤ 4 * (cfg p).refTol → ∀ q : Part,
          q =
            (if dev ≤ (cfg p).refTol then { p with sampling := { p.sampling with check := none, drift := false } }
            else raise .converterDrift { p with sampling := { p.sampling with check := none, drift := true } }) →
            (p.loader.phase ≠ .checking → Takes .refCheckEnd s (finish (answer q))) ∧
            (p.loader.phase = .checking → p.sequencer.platen = .opened →
              Takes .refCheckEnd s (finish (answer (completeStart q)))) ∧
            (p.loader.phase = .checking → p.sequencer.platen ≠ .opened →
              Takes .refCheckEnd s
                (finish
                  (answer
                    { q with
                      loader := { q.loader with phase := .waiting, waitTimer := some (cfg p).openTimeout } })))) ∧
        (4 * (cfg p).refTol < dev →
          ∀ f : Part,
            f =
              takeFault 4
                { p with
                  sampling := { p.sampling with check := none, converterFault := true },
                  loader :=
                    { p.loader with
                      phase := if p.loader.phase = .checking then .failed else p.loader.phase } } →
              Takes .refCheckEnd s
                (finish
                  (answer
                    { f with
                      regulator :=
                        { f.regulator with
                          heaters := f.regulator.heaters.map (fun x => { x with seen := x.on }) } })))) ∧
      (∀ q t : Part, q.control.mode = .start → t = completeStart q →
        t.control.mode = .seek ∧ t.control.operatorHold = q.control.operatorHold ∧ t.control.fault = q.control.fault ∧
          t.loader = { q.loader with phase := .complete, waitTimer := none } ∧
          t.regulator = { q.regulator with idle := false, listen := 2 } ∧
          t.sequencer = { q.sequencer with dryTimer := none, dryDue := false } ∧ t.tracker = q.tracker ∧
          t.sampling = q.sampling ∧ t.dose = q.dose ∧ t.log = q.log ∧ t.responder = q.responder ∧ t.pins = q.pins ∧
          (q.pins.stopInput = false →
            t.control = { q.control with mode := .seek } ∧ t.port = q.port ∧ t.monitor = q.monitor) ∧
          (q.pins.stopInput = true →
            t.control.lineStop = true ∧ t.port = (send (.lineStop .input) { q with loader := t.loader }).port ∧
              t.monitor.frozen =
                (if q.control.lineStop = false ∧ freezeOnStop (cfg q) = true ∧ q.monitor.frozen = none then some .stop
                else q.monitor.frozen))) ∧
      ((∀ c : RefCheck, p.sampling.check = some c → c.ticks < 10) → Takes .refCheckEnd s (finish p)) ∧
      (p.regulator.ticks < 32 →
        Takes .regulationPeriodEnd s (finish p) ∧ Takes .budgetPeriodEnd s (finish p)) ∧
      (∀ z : Part,
        readRegulator z =
          raiseIf (decide (z.regulator.scale < 256)) .supplyShort { z with monitor := (readRegulator z).monitor }) ∧
      (32 ≤ p.regulator.ticks → ∀ (q : Part) (begun : Nat → Heater → Heater), q = computeDuties p →
        (∀ (f : Nat) (x : Heater),
          begun f x =
            { duty := x.duty, applied := x.duty * f / 256, on := decide (0 < x.duty * f / 256),
              seen := decide (0 < x.duty * f / 256) }) →
        (p.regulator.periods < 3 →
          Takes .regulationPeriodEnd s
            (finish
              (readRegulator
                { q with
                  regulator :=
                    { q.regulator with
                      heaters := q.regulator.heaters.map (begun p.regulator.scale), ticks := 0,
                      periods := p.regulator.periods + 1 } })) ∧
          Takes .budgetPeriodEnd s (finish p)) ∧
        (3 ≤ p.regulator.periods → ∀ (w : Nat) (u v : Part),
          w = ownDemand (cfg p) (q.regulator.heaters.map Heater.duty) →
          u =
            { q with
              regulator :=
                { q.regulator with
                  draws := ageDraws p.regulator.draws,
                  scale := scaleFactor (cfg p) w (ageDraws p.regulator.draws) } } →
          v =
            (if p.control.mode = .start ∨ (cfg p).budget = 0 then u
            else send (.drawNotice (cfg p).feed (cfg p).cls w) u) →
            ∀ t : Part,
              t =
                readRegulator
                  { v with
                    regulator :=
                      { v.regulator with
                        listen := p.regulator.listen - 1,
                        heaters := q.regulator.heaters.map (begun u.regulator.scale), ticks := 0,
                        periods := 0 } } →
                Takes .regulationPeriodEnd s (finish t) ∧ Takes .budgetPeriodEnd s (finish t))) ∧
      (∀ (a b : List Heater) (x : Heater), p.regulator.heaters = a ++ x :: b →
        if x.on = true ∧ x.applied < 64 ∧ x.applied ≤ 2 * p.regulator.ticks + 2 then
          Takes (.heaterOnTimeEnd a.length) s
            (finish
              { p with
                regulator :=
                  { p.regulator with
                    heaters :=
                      a ++
                        { x with on := false, seen := x.seen && decide (2 * p.regulator.ticks < x.applied) } :: b } })
        else Takes (.heaterOnTimeEnd a.length) s (finish p)) ∧
      (if (p.control.mode = .run ∨ p.control.mode = .hold) ∧ p.regulator.idle = false ∧
          1000 * (cfg p).idleTimeout ≤ p.regulator.idleClock ∧ p.loader.config ≠ none then
        Takes .idleTimeout s (finish { p with regulator := { p.regulator with idle := true } })
      else Takes .idleTimeout s (finish p))

/-- R112, R120 to R123, R128, R149, R165: the timers of the platen and its arrival. A close timeout gives the open command, concludes
the row, and at the third in a row is a fault of code 3; an open timeout is a fault of code 1 with the platen still in OPENING; at the
arrival at OPEN the row concludes, or a dry cycle ends with its entry unless that was added before; then a deferred realignment is
applied against the H held, with its VOID NOTICE; then a dry cycle held due begins; and a start that waited is complete. A dry period
ended begins a cycle at OPEN and else holds one due. The model's choices: the order within the event (log 14, log 15), a settle delay
of 0 (log 26), the lift sample of a lane that failed in its lag (log 47), and that a timeout or a dry period that is not due changes
nothing (log 3). -/
def Obligations.PlatenTimersAndArrival : Prop :=
  ∀ (s : State) (r : Part), Finds s r →
    (∀ (n : Nat) (t : Part), r.sequencer.platen = .closing → r.sequencer.closeTimer ≠ none → r.sequencer.dry = none →
      n = min 3 (r.sequencer.closeTimeouts + 1) →
      t = raise .closeTimeout (concludeHead .closeTimeout (openCommand r)) →
        Takes .closeTimeout s
          (finish
            (if n = 3 then takeFault 3 { t with sequencer := { t.sequencer with closeTimeouts := n } }
            else { t with sequencer := { t.sequencer with closeTimeouts := n } }))) ∧
      (∀ (n : Nat) (t : Part) (cycle : DryCycle), r.sequencer.platen = .closing → r.sequencer.closeTimer ≠ none →
        r.sequencer.dry = some cycle → n = min 3 (r.sequencer.closeTimeouts + 1) →
        t =
          raise .closeTimeout
            (logCycle cycle.tag true false false
              { openCommand r with
                sequencer := { (openCommand r).sequencer with dry := some { cycle with logged := true } } }) →
        Takes .closeTimeout s
          (finish
            (if n = 3 then takeFault 3 { t with sequencer := { t.sequencer with closeTimeouts := n } }
            else { t with sequencer := { t.sequencer with closeTimeouts := n } }))) ∧
      (r.sequencer.platen ≠ .closing ∨ r.sequencer.closeTimer = none → Takes .closeTimeout s (endOf r)) ∧
      (r.sequencer.platen = .opening → r.sequencer.openTimer ≠ none →
        ∃ t : Part,
          t = takeFault 1 (raise .openTimeout { r with sequencer := { r.sequencer with openTimer := none } }) ∧
            Takes .openTimeout s (finish t) ∧ t.control.mode = .fault ∧ t.sequencer.platen = .opening ∧
            t.tracker.records = r.tracker.records ∧ t.tracker.pendingRealign = r.tracker.pendingRealign) ∧
      (r.sequencer.platen ≠ .opening ∨ r.sequencer.openTimer = none → Takes .openTimeout s (endOf r)) ∧
      (r.sequencer.platen ≠ .opening ∨ r.loader.phase = .off →
        Takes .openSensorActive s (endOf { r with pins := { r.pins with openSensor := true } })) ∧
      (r.sequencer.platen = .opening → r.loader.phase ≠ .off → ∀ q a b c d : Part,
        q =
          { r with
            pins := { r.pins with openSensor := true },
            sequencer := { r.sequencer with platen := .opened, openTimer := none } } →
        (r.sequencer.dry = none →
          a = if r.dose.closeCommanded = true ∧ headFrozen r = true then concludeHead .arrival q else q) →
        (∀ cycle : DryCycle, r.sequencer.dry = some cycle → cycle.logged = true →
          a = { q with sequencer := { q.sequencer with dry := none } }) →
        (∀ (cycle : DryCycle) (x : LogEntry) (l : DwellLog), r.sequencer.dry = some cycle → cycle.logged = false →
          EntryIs x q cycle.tag true false false → LoggedIn l x q →
            a =
              raiseIf (decide (64 ≤ r.log.entries.length)) .logOverflow
                { q with
                  sequencer := { q.sequencer with dry := none }, tracker := { q.tracker with chatter := false },
                  log := l }) →
        (a.tracker.pendingRealign = none ∨ a.tracker.h = none → b = a) →
        (∀ (x : Realignment) (head : Tag), a.tracker.pendingRealign = some x → a.tracker.h = some head →
          b =
            count .realign
              (raise .realigned
                (send
                  (.voidNotice (tagMin x.hFirst (tagAdd x.hFirst x.d)) (tagMax head (tagAdd head x.d)) (cfg r).stage
                    .realign)
                  { a with
                    tracker :=
                      { a.tracker with
                        h := some (tagAdd head x.d), skew := none, pendingRealign := none,
                        records :=
                          (List.range 48).map
                            (fun m =>
                              match a.tracker.records.find?
                                  (fun y => y.tag == tagAdd head x.d + BitVec.ofNat 16 m) with
                              | some y =>
                                { y with
                                  frozen := false, concluded := false,
                                  lanes :=
                                    y.lanes.map
                                      (fun e =>
                                        { freshLane with
                                          formed := e.formed, load := e.load, card := e.card,
                                          contributions := e.contributions }) }
                              | none => freshRecord (cfg r) (tagAdd head x.d + BitVec.ofNat 16 m)) } }))) →
        (b.sequencer.dryDue = false ∨ b.control.mode ≠ .dry → c = b) →
        (b.sequencer.dryDue = true → b.control.mode = .dry → ∀ y : Part,
          y =
            { b with
              sequencer :=
                { b.sequencer with
                  platen := .settle, settleTimer := some (cfg r).settle, dryTimer := some (cfg r).dryPeriod,
                  dryDue := false, dry := some { tag := b.tracker.h.getD 0, logged := false } } } →
            c = if (cfg r).settle = 0 then settleDry y else y) →
        d = (if r.loader.phase = .waiting then completeStart c else c) →
          Takes .openSensorActive s (endOf (enterOpen { r with pins := { r.pins with openSensor := true } })) ∧
            Takes .openSensorActive s (endOf d)) ∧
      (r.control.mode = .dry → r.sequencer.dryTimer ≠ none →
        (r.sequencer.platen = .opened → Takes .dryPeriodExpiry s (endOf (beginDry r))) ∧
          (r.sequencer.platen ≠ .opened →
            Takes .dryPeriodExpiry s
              (endOf { r with sequencer := { r.sequencer with dryTimer := none, dryDue := true } }))) ∧
      (r.control.mode ≠ .dry ∨ r.sequencer.dryTimer = none → Takes .dryPeriodExpiry s (endOf r))

/-- R37, R144 to R153: the conclusion of a head row. A frozen row not retired from OPEN or SETTLE is judged lane by lane by its plan;
any other has every lane SKIPPED. The SEAL REPORT is queued, a row whose close was commanded enters the dwell log, LOG_OVERFLOW raised
where it is full, the lane events are handed to the monitor in their order, and a final stage keeps the run of UNDER rows. A row
already concluded is left. (ABORTED, no-contact and their marks: log 17 to log 19; the reason of a row never frozen at a forced index:
log 46; the lift sample of a lane that failed in its lag: log 47.) -/
def Obligations.ConclusionFilesTheRow : Prop :=
  ∀ (p t : Part) (row : RowRecord) (rest : List RowRecord) (pt : ConclusionPoint) (judged closed : Bool) (x : LogEntry),
    p.tracker.records = row :: rest → t = concludeHead pt p →
      (judged = true ↔ row.frozen = true ∧ ∀ reason, pt ≠ .retired reason) →
        (closed = true ↔ judged = true ∧ p.dose.closeCommanded = true ∧ p.sequencer.dry = none) →
          x =
            { tag := row.tag, samples := p.dose.samples, lost := p.dose.lost, scale := p.dose.scaleAtStart, dry := false,
              aborted := p.dose.cut, forced := decide (pt = .forcedIndex), chatter := p.tracker.chatter,
              drift := p.dose.drift,
              lanes :=
                (List.range 8).map
                  (fun i =>
                    if i < (cfg p).lanes then
                      { dose := min 65535 (((laneDose p i).acc + 8) / 16),
                        lift := ((laneDose p i).lift.map (fun s => s / 2)).getD 255 }
                    else { dose := 0, lift := 255 }) } →
            (row.concluded = true → t = p) ∧
              (row.concluded = false →
                ∃ (done : RowRecord) (sent : Part),
                  t.tracker =
                      { p.tracker with
                        records := done :: rest, chatter := if closed then false else p.tracker.chatter } ∧
                    done = { row with concluded := true, lanes := done.lanes } ∧
                    done.lanes.length = row.lanes.length ∧
                    (∀ (i : Nat) (e out : LaneEntry), row.lanes[i]? = some e → done.lanes[i]? = some out →
                      out.plan = e.plan ∧ out.aim = e.aim ∧ out.assumed = e.assumed ∧ out.voided = e.voided ∧
                        (judged = false ∨ e.plan ≠ .press →
                          out.sensor = e.sensor ∧ out.drift = e.drift ∧ out.noContact = e.noContact ∧ out.forced = e.forced) ∧
                        (judged = false →
                          out.verdict = .skipped ∧ out.ownDose = 0 ∧
                            out.reason = (match pt with | .retired reason => reason | _ => .station)) ∧
                        (judged = true → e.plan = .holdOff →
                          out.verdict = .skipped ∧ out.ownDose = 0 ∧ out.reason = e.planReason) ∧
                        (judged = true → e.plan = .press →
                          out.ownDose = min 65535 (((laneDose p i).acc + 8) / 16) ∧ out.reason = .none ∧
                            out.sensor = (laneDose p i).sensorEnd ∧ out.drift = (laneDose p i).drift ∧
                            out.noContact = !(laneDose p i).sampled ∧ out.forced = decide (pt = .forcedIndex)) ∧
                        (judged = true → e.plan = .notPressed → out.ownDose = 0 ∧ out.reason = .notNeeded) ∧
                        (judged = true → (e.plan = .press ∨ e.plan = .notPressed) → ∀ c : Nat,
                          c = min 65535 (prior (cfg p) row e + out.ownDose) →
                            out.verdict =
                              (if (cfg p).stage = (cfg p).stages then
                                if c < (cfg p).dmin then .under
                                else if (cfg p).dmax < c then .over
                                else if out.assumed || out.voided || out.sensor || out.drift then .doubt
                                else .sealed
                              else if (cfg p).dmax < c then .over
                              else .pending))) ∧
                    sent =
                      send
                        (.sealReport
                          { tag := row.tag, stage := (cfg p).stage, final := (cfg p).stage == (cfg p).stages,
                            noContact := closed && decide (p.dose.samples = 0), forced := decide (pt = .forcedIndex),
                            drift := closed && p.dose.drift,
                            lanes :=
                              done.lanes.map
                                (fun e =>
                                  { dose := e.ownDose, verdict := e.verdict, reason := e.reason, assumed := e.assumed,
                                    voided := e.voided, sensor := e.sensor }) })
                        p ∧
                    t.port = sent.port ∧
                    t.monitor =
                      ([(Event.lanePressed, fun e => judged && (e.plan == .press), fun _ => 1),
                          (.laneSkipped, fun e => e.verdict == .skipped, fun _ => 1),
                          (.verdictSealed, fun e => e.verdict == .sealed, fun _ => 1),
                          (.verdictUnder, fun e => e.verdict == .under, fun _ => 1),
                          (.verdictOver, fun e => e.verdict == .over, fun _ => 1),
                          (.verdictDoubt, fun e => e.verdict == .doubt, fun _ => 1),
                          (.laneDose, fun _ => true, fun e => e.ownDose)] :
                          List (Event × (LaneEntry → Bool) × (LaneEntry → Nat))).foldl
                        (fun m x =>
                          (List.range done.lanes.length).foldl
                            (fun m i =>
                              match done.lanes[i]? with
                              | some e => if x.2.1 e then occurLane x.1 i (x.2.2 e) m else m
                              | none => m) m) sent.monitor ∧
                    t.log =
                      (if closed then
                        if p.log.entries.length < 64 then { p.log with entries := p.log.entries ++ [x] }
                        else
                          { entries := if logOverwrites (cfg p) then p.log.entries.drop 1 ++ [x] else p.log.entries,
                            overflow := min 65535 (p.log.overflow + 1) }
                      else p.log) ∧
                    t.dose =
                      { p.dose with
                        underCount :=
                          if (cfg p).stage = (cfg p).stages then
                            if done.lanes.any (fun e => e.verdict == .under) then min 3 (p.dose.underCount + 1) else 0
                          else p.dose.underCount } ∧
                    ((cfg p).stage = (cfg p).stages → t.dose.underCount = 3 → alarmSet .underRun t = true) ∧
                    t.control =
                      (raiseIf (decide ((cfg p).stage = (cfg p).stages ∧ t.dose.underCount = 3)) .underRun
                        (raiseIf (closed && decide (64 ≤ p.log.entries.length)) .logOverflow sent)).control ∧
                    t.sequencer = p.sequencer ∧
                    t.sampling = p.sampling ∧ t.regulator = p.regulator ∧ t.responder = p.responder ∧
                    t.loader = p.loader ∧ t.pins = p.pins)

/-! ## Faults and counting -/

/-- R100, R119, R126, R130, R159, R164, R165: in FAULT a further fault is only counted; a first fault records its code, H and the index
count, enters FAULT, puts the heaters out, ends DRY and its timer, takes CLOSING and DWELL as an open command, and queues a LINE STATE
STOP. -/
def Obligations.FaultEntryAndFurtherFaults : Prop :=
  ∀ (code : Nat) (p t : Part), t = takeFault code p →
    (p.control.mode = .fault →
      t =
        { p with
          control :=
            { p.control with
              fault := { p.control.fault with further := min 255 (p.control.fault.further + 1) } } }) ∧
      (p.control.mode ≠ .fault →
        t.control.mode = .fault ∧
          t.control.fault = { code := code, h := p.tracker.h, count := p.tracker.indexCount, further := 0 } ∧
          t.control.lineStop = p.control.lineStop ∧ t.control.operatorHold = p.control.operatorHold ∧
          t.port = (send (.lineStop .fault) p).port ∧ (∀ x ∈ t.regulator.heaters, x.on = false) ∧
          t.sequencer.dryTimer = none ∧ t.sequencer.dryDue = false ∧ t.sequencer.dry = none ∧
          (closing p.sequencer.platen = true →
            t.sequencer.platen = .opening ∧ t.sequencer.openTimer = some (cfg p).openTimeout ∧
              t.sequencer.closeTimer = none ∧ ∀ l ∈ t.dose.lanes, l.contact = .ended) ∧
          (p.sequencer.dry = none → closing p.sequencer.platen = false →
            t.sequencer = { p.sequencer with dryTimer := none, dryDue := false } ∧ t.dose = p.dose) ∧
          (p.sequencer.dry = none → t.log = p.log ∧ t.tracker = p.tracker) ∧
          t.tracker.h = p.tracker.h ∧ t.tracker.records = p.tracker.records ∧ t.sampling = p.sampling ∧
          t.responder = p.responder ∧ t.loader = p.loader ∧ t.pins = p.pins)

/-- R172, R174, R176 to R179: what a counter i below 6 adds. While frozen, nothing. An occurrence reaches each enabled counter that
selects it, for a lane event by its mask. At a tick a selected condition, inverted under invert, is counted by ticks or by rises, and
the edge memory takes it, frozen or not; a lane condition with mask 0 counts nothing and leaves the memory (log 51); and TXQ_OCCUPANCY
is handed over with the number of queued frames as its amount (R26), counted before what falls due at the tick (log 49). The conditions
that read the setpoint in force and f are taken by the regulator's part of the tick (log 21), the others by the monitor's. -/
def Obligations.EventsAreCounted : Prop :=
  ∀ (p : Part) (m : Monitor) (i : Nat) (k : Control) (c : Counter), m = p.monitor → i < 6 → m.controls[i]? = some k →
    m.counters[i]? = some c →
      (∀ (e : Event) (lane n : Nat), m.frozen = none →
        (occur e n m).counters[i]? = some (if k.enable = true ∧ k.select = eventCode e then addTo c (added k n) else c) ∧
          (occurLane e lane n m).counters[i]? =
            some (if k.enable = true ∧ k.select = eventCode e ∧ k.mask.getLsbD lane = true then addTo c (added k n) else c) ∧
          occur e n m = { m with counters := (occur e n m).counters } ∧
          occurLane e lane n m = { m with counters := (occurLane e lane n m).counters }) ∧
        (∀ (e : Event) (lane n : Nat), m.frozen ≠ none → occur e n m = m ∧ occurLane e lane n m = m) ∧
        ∀ (lost : Bool) (t u : Monitor), t = (monitorTick lost p).monitor → u = (readRegulator p).monitor →
          t.frozen = m.frozen ∧ t.snapshot = m.snapshot ∧ (m.frozen ≠ none → t.counters = m.counters) ∧
            (k.enable = true → k.select = 22 → m.frozen = none →
              t.counters[i]? = some (addTo c (added k p.port.queue.length))) ∧
            u.frozen = m.frozen ∧ u.snapshot = m.snapshot ∧ (m.frozen ≠ none → u.counters = m.counters) ∧
            ((k.enable = false ∨ k.select < 23 ∨ k.select = 23 ∧ k.mask = 0 ∨ k.select = 24 ∨ k.select = 25) →
              t.controls[i]? = some k) ∧
            ((k.enable = false ∨ k.select < 22 ∨ k.select = 23 ∧ k.mask = 0 ∨ k.select = 24 ∨ k.select = 25) →
              t.counters[i]? = some c) ∧
            ((k.enable = false ∨ k.select < 24 ∨ k.select = 24 ∧ k.mask = 0 ∨ 25 < k.select) →
              u.controls[i]? = some k ∧ u.counters[i]? = some c) ∧
            ∀ (held : Prop) (b : Bool) (x : Monitor), k.enable = true →
              (k.select = 23 ∧ k.mask ≠ 0 ∧ x = t ∧
                    (held ↔ ∃ l, l < (cfg p).lanes ∧ k.mask.getLsbD l = true ∧ (laneHeater p l).seen = true) ∨
                  k.select = 24 ∧ k.mask ≠ 0 ∧ x = u ∧
                    (held ↔ ∃ l, l < (cfg p).lanes ∧ k.mask.getLsbD l = true ∧
                      (laneChannel p l).temp + 8 < handedSetpoint p) ∨
                  k.select = 25 ∧ x = u ∧ (held ↔ p.regulator.scale < 256) ∨
                  k.select = 26 ∧ x = t ∧ (held ↔ p.sequencer.platen ≠ .opened) ∨
                  k.select = 27 ∧ x = t ∧ (held ↔ lost = true) ∨
                  k.select = 28 ∧ x = t ∧
                    (held ↔ p.control.lineStop = true ∨ p.control.mode = .hold ∨ p.control.mode = .dry ∨
                      p.control.mode = .fault)) →
                (b = true ↔ ¬(held ↔ k.invert = true)) →
                  x.controls[i]? = some { k with memory := b } ∧
                    (m.frozen = none →
                      x.counters[i]? =
                        some (if b = true ∧ ¬(k.edge = true ∧ k.memory = true) then addTo c 1 else c))

/-! ## Encodings -/

/-- R3, R4, R5: every frame that a sender puts on the line is taken in whole, whatever its header and its payload of 0 to 32 bytes, the
run of recessive bits starting with the last bit of the mark (as under tolerance: log 45). -/
def Obligations.WireFrameRoundTrip : Prop :=
  ∀ f : RxFrame, f.payload.length ≤ 32 → receiveBits (tailBits f) = .whole f

/-- R16, R198: the block that READ CONFIG returns for a clamped block has 95 bytes, passes the checks of a start, and reads back as the
configuration in force. -/
def Obligations.ConfigurationBlockRoundTrip : Prop :=
  ∀ b : List Byte,
    (blockBytes (clampBlock (readBlock b))).length = 95 ∧ checksPass (blockBytes (clampBlock (readBlock b))) = true ∧
      readBlock (blockBytes (clampBlock (readBlock b))) = clampBlock (readBlock b)

/-- R9 to R12, R173: the payloads that this part lays out are read back as they were meant: a SEAL REPORT lane by lane, a VOID NOTICE, a
DRAW NOTICE, a LINE STATE, and the controls of a SET COUNTER. -/
def Obligations.PayloadsReadBack : Prop :=
  (∀ x : SealReport, 1 ≤ x.stage → x.stage ≤ 4 → 1 ≤ x.lanes.length → x.lanes.length ≤ 8 →
      (∀ l ∈ x.lanes, l.dose ≤ 65535) →
        readSealReport (payloadBytes (.sealReport x)) =
          some { tag := x.tag, stage := x.stage,
                 lanes := x.lanes.map (fun l => { dose := l.dose, result := some (l.verdict, l.reason) }) }) ∧
    (∀ (first last : Tag) (stage : Nat) (cause : VoidCause), 1 ≤ stage → stage ≤ 4 →
      readVoidNotice (payloadBytes (.voidNotice first last stage cause)) =
        some { first := first, last := last, stage := stage }) ∧
    (∀ (feed : Nat) (k : DrawClass) (demand : Nat), feed ≤ 3 → demand ≤ 65535 →
      readDrawNotice (payloadBytes (.drawNotice feed k demand)) = some { feed := feed, cls := k, demand := demand }) ∧
    (∀ cause : StopCause, readLineState (payloadBytes (.lineStop cause)) = some false) ∧
    ∀ (i : Nat) (k : Control), i ≤ 5 → k.select ≤ 28 → k.threshold ≤ 65535 →
      readControl (controlBytes i k) = (i, { k with memory := false })

/-- R2, R4: the start mark, the polynomial and the acceptance of a mark. -/
def Obligations.StartMarkAndPolynomial : Prop :=
  bitsOf 8 startMark.toNat = [false, true, false, false, true, true, false, true] ∧
    (List.range 16).filter (fun i => checkPattern.getLsbD i) = [0, 3, 6, 7, 11, 12, 13] ∧
    (∀ m : Byte, markAccepted false m = true ↔ m = startMark) ∧
    ∀ m : Byte, markAccepted true m = true ↔ (m = startMark ∨ ∃ i, i < 8 ∧ m = startMark ^^^ BitVec.ofNat 8 (2 ^ i))

/-! ## Arithmetic of the dose, the dwell and the supply -/

/-- R64, R133, R134, R135: the prior, the doses that stand for the upstream stages, saturating; the planned dose S, the shares of
stages 1 to k or Dtarget at the final stage; and the aim, with both terms formed as signed numbers: a prior at or below Dmax is never
carried past it. -/
def Obligations.AimStaysBelowDmax : Prop :=
  ∀ (k : Configuration) (row : RowRecord) (e : LaneEntry),
    (∀ stands : Nat → Nat,
      (∀ j : Nat,
        (j ∈ row.upstreamVoided → stands j = [k.share1, k.share2, k.share3, k.share4].getD (j - 1) 0) ∧
          (j ∉ row.upstreamVoided → (∀ x ∈ e.contributions, x.stage ≠ j) →
            stands j = [k.share1, k.share2, k.share3, k.share4].getD (j - 1) 0) ∧
          ∀ (a b : List Contribution) (x : Contribution), j ∉ row.upstreamVoided → e.contributions = a ++ x :: b →
            (∀ y ∈ a, y.stage ≠ j) → x.stage = j → stands j = x.dose) →
        prior k row e = min 65535 (((List.range (k.stage - 1)).map (fun j => stands (j + 1))).sum)) ∧
      (k.stage = k.stages → plannedDose k = k.dtarget) ∧
      (k.stage ≠ k.stages →
        plannedDose k = min 65535 (([k.share1, k.share2, k.share3, k.share4].take k.stage).sum)) ∧
      (aimOf k row e : Int) =
        min (max 0 ((plannedDose k : Int) - prior k row e)) (max 0 ((k.dmax : Int) - prior k row e)) ∧
      (prior k row e ≤ k.dmax → prior k row e + aimOf k row e ≤ k.dmax)

/-- R137, R138, R144: contact weight, increment and own dose, as their rules give them, and at their limits. -/
def Obligations.DoseLimits : Prop :=
  ∀ (k : Configuration) (temp pressure acc : Nat),
    (pressure < k.pmin → contactWeight k pressure = 0) ∧
      (k.pmin ≤ pressure → contactWeight k pressure = min 256 (256 * pressure / k.pref)) ∧
      (k.pmin ≤ pressure → 0 < k.pref → k.pref ≤ pressure → contactWeight k pressure = 256) ∧
      contactWeight k pressure ≤ 256 ∧
      (temp ≤ k.tact → increment k temp (contactWeight k pressure) = 0) ∧
      (k.tact ≤ temp →
        increment k temp (contactWeight k pressure) = (temp - k.tact) * contactWeight k pressure / 256) ∧
      increment k temp (contactWeight k pressure) ≤ temp ∧
      (k.tact < temp → increment k temp 256 = temp - k.tact) ∧
      ownDose acc = min 65535 ((acc + 8) / 16) ∧
      (acc ≤ 1048567 → 16 * ownDose acc ≤ acc + 8 ∧ acc < 16 * ownDose acc + 8)

/-- R116: the dwell limit of a row cycle. -/
def Obligations.DwellLimitFromThePeriod : Prop :=
  ∀ (k : Configuration) (t : Nat),
    dwellLimitOf k none = k.nconf ∧
      (dwellLimitOf k (some t) : Int) =
        max (k.nmin : Int) (min (k.nconf : Int) (max 0 ((t : Int) - k.motion - k.settle - k.release) / 2)) ∧
      (k.nmin ≤ k.nconf → k.nmin ≤ dwellLimitOf k (some t) ∧ dwellLimitOf k (some t) ≤ k.nconf)

/-- R94, R96, R97, R101, R106, R107, R108: the setpoint and the duties of a period end, own demand, and the scale factor, which keeps a
class's scaled demand within what the feed gives it. -/
def Obligations.DutiesAndScaleFactor : Prop :=
  (∀ (p : Part) (i : Nat) (x y : Heater) (sp : Nat), p.regulator.heaters[i]? = some x →
      (computeDuties p).regulator.heaters[i]? = some y →
      sp =
        (if p.control.mode = .dry ∨ (p.control.mode = .run ∨ p.control.mode = .hold) ∧ p.regulator.idle = true then
          (cfg p).spStby
        else (cfg p).spRun) →
        (computeDuties p).regulator.setpoint = sp ∧ y = { x with duty := y.duty } ∧
          (y.duty : Int) =
            (if (cfg p).lanes ≤ i ∨ (laneChannel p i).isOpen = true ∨ (laneChannel p i).overheat = true ∨
                p.control.mode = .start ∨ p.control.mode = .fault ∨ 0 < p.regulator.listen then 0
            else
              max 0
                (min 64 (((cfg p).bias : Int) + (((sp : Int) - (laneChannel p i).temp) * (cfg p).gain) / 64)))) ∧
    (∀ (k : Configuration) (duties : List Nat),
      ownDemand k duties =
        ((List.range k.lanes).map
          (fun i => duties.getD i 0 * k.wlane.getD (if reversal k then k.lanes - 1 - i else i) 0 / 64)).sum) ∧
    ∀ (k : Configuration) (w : Nat) (ds : List Draw),
      scaleFactor k w ds ≤ 256 ∧ (k.budget = 0 → scaleFactor k w ds = 256) ∧
        (k.budget ≠ 0 → k.cls = .a → (w + classDemand .a ds) * scaleFactor k w ds ≤ 256 * k.budget ∨
          w + classDemand .a ds ≤ k.budget) ∧
        (k.budget ≠ 0 → k.cls = .a → w + classDemand .a ds ≤ k.budget → scaleFactor k w ds = 256) ∧
        (k.budget ≠ 0 → k.cls = .a → k.budget < w + classDemand .a ds →
          scaleFactor k w ds = 256 * k.budget / (w + classDemand .a ds)) ∧
        (k.budget ≠ 0 → k.cls = .b → k.budget < w + classDemand .a ds + classDemand .b ds →
          k.budget ≤ classDemand .a ds ∧ w + classDemand .b ds = 0 ∨
          scaleFactor k w ds = 256 * (k.budget - classDemand .a ds) / (w + classDemand .b ds)) ∧
        (k.budget ≠ 0 → k.cls = .b → w + classDemand .a ds + classDemand .b ds ≤ k.budget → scaleFactor k w ds = 256) ∧
        (k.budget ≠ 0 → k.cls = .b → w + classDemand .b ds = 0 → scaleFactor k w ds = 256) ∧
        (k.budget ≠ 0 → k.cls = .b → k.budget ≤ classDemand .a ds → 0 < w → scaleFactor k w ds = 0)

/-- R175: an occurrence handed to an enabled counter that selects its event adds its amount where the threshold is 0, else 1 or 0 by the
threshold test and invert; an occurrence of amount 0 with threshold 0 leaves the counter and its wrap flag. -/
def Obligations.ThresholdDecidesTheAddition : Prop :=
  ∀ (m : Monitor) (i lane n : Nat) (k : Control) (c : Counter) (e : Event) (amount : Nat), m.frozen = none →
    m.controls[i]? = some k → m.counters[i]? = some c → k.enable = true → k.select = eventCode e →
      ((k.threshold = 0 → amount = n) ∧
          (k.threshold ≠ 0 → k.invert = false → amount = if k.threshold ≤ n then 1 else 0) ∧
          (k.threshold ≠ 0 → k.invert = true → amount = if n < k.threshold then 1 else 0)) →
        (occur e n m).counters[i]? = some (addTo c amount) ∧
          (k.mask.getLsbD lane = true → (occurLane e lane n m).counters[i]? = some (addTo c amount)) ∧
          (n = 0 → k.threshold = 0 → (occur e n m).counters[i]? = some c)

/-- R172: an addition past the top takes the remainder and sets the wrap flag; any other leaves the flag. -/
def Obligations.AdditionWrapsAtFortyBits : Prop :=
  ∀ (k : Counter) (n : Nat), k.value < counterModulus → n ≤ counterModulus →
    ((addTo k n).value = (k.value + n) % 1099511627776 ∧
      ((addTo k n).wrap = true ↔ k.wrap = true ∨ 1099511627775 < k.value + n))
end

