-- ==== Sys2Proof/Laws/OpsFrames.lean ====
section
/-! SUPPORT. What the shared operations of the line port, the log, the counters and the flags leave unchanged: one lemma per operation, the conjunction of the blocks it does not touch, and its parts for simp. -/

namespace Sys2Proof.Machine

variable (p : Part)

theorem raise_leaves (a : Alarm) :
    (raise a p).port = p.port ∧
      (raise a p).tracker = p.tracker ∧
      (raise a p).sampling = p.sampling ∧
      (raise a p).regulator = p.regulator ∧
      (raise a p).sequencer = p.sequencer ∧
      (raise a p).dose = p.dose ∧
      (raise a p).monitor = p.monitor ∧
      (raise a p).log = p.log ∧
      (raise a p).responder = p.responder ∧
      (raise a p).loader = p.loader ∧
      (raise a p).pins = p.pins ∧
      (raise a p).control.mode = p.control.mode ∧
      (raise a p).control.lineStop = p.control.lineStop ∧
      (raise a p).control.operatorHold = p.control.operatorHold ∧
      (raise a p).control.fault = p.control.fault := by
  simp [raise]

@[simp] theorem raise_port (a : Alarm) : (raise a p).port = p.port :=
  (raise_leaves p a).1
@[simp] theorem raise_tracker (a : Alarm) : (raise a p).tracker = p.tracker :=
  (raise_leaves p a).2.1
@[simp] theorem raise_sampling (a : Alarm) : (raise a p).sampling = p.sampling :=
  (raise_leaves p a).2.2.1
@[simp] theorem raise_regulator (a : Alarm) : (raise a p).regulator = p.regulator :=
  (raise_leaves p a).2.2.2.1
@[simp] theorem raise_sequencer (a : Alarm) : (raise a p).sequencer = p.sequencer :=
  (raise_leaves p a).2.2.2.2.1
@[simp] theorem raise_dose (a : Alarm) : (raise a p).dose = p.dose :=
  (raise_leaves p a).2.2.2.2.2.1
@[simp] theorem raise_monitor (a : Alarm) : (raise a p).monitor = p.monitor :=
  (raise_leaves p a).2.2.2.2.2.2.1
@[simp] theorem raise_log (a : Alarm) : (raise a p).log = p.log :=
  (raise_leaves p a).2.2.2.2.2.2.2.1
@[simp] theorem raise_responder (a : Alarm) : (raise a p).responder = p.responder :=
  (raise_leaves p a).2.2.2.2.2.2.2.2.1
@[simp] theorem raise_loader (a : Alarm) : (raise a p).loader = p.loader :=
  (raise_leaves p a).2.2.2.2.2.2.2.2.2.1
@[simp] theorem raise_pins (a : Alarm) : (raise a p).pins = p.pins :=
  (raise_leaves p a).2.2.2.2.2.2.2.2.2.2.1
@[simp] theorem raise_mode (a : Alarm) : (raise a p).control.mode = p.control.mode :=
  (raise_leaves p a).2.2.2.2.2.2.2.2.2.2.2.1
@[simp] theorem raise_lineStop (a : Alarm) : (raise a p).control.lineStop = p.control.lineStop :=
  (raise_leaves p a).2.2.2.2.2.2.2.2.2.2.2.2.1
@[simp] theorem raise_operatorHold (a : Alarm) : (raise a p).control.operatorHold = p.control.operatorHold :=
  (raise_leaves p a).2.2.2.2.2.2.2.2.2.2.2.2.2.1
@[simp] theorem raise_fault (a : Alarm) : (raise a p).control.fault = p.control.fault :=
  (raise_leaves p a).2.2.2.2.2.2.2.2.2.2.2.2.2.2

theorem raiseIf_leaves (b : Bool) (a : Alarm) :
    (raiseIf b a p).port = p.port ∧
      (raiseIf b a p).tracker = p.tracker ∧
      (raiseIf b a p).sampling = p.sampling ∧
      (raiseIf b a p).regulator = p.regulator ∧
      (raiseIf b a p).sequencer = p.sequencer ∧
      (raiseIf b a p).dose = p.dose ∧
      (raiseIf b a p).monitor = p.monitor ∧
      (raiseIf b a p).log = p.log ∧
      (raiseIf b a p).responder = p.responder ∧
      (raiseIf b a p).loader = p.loader ∧
      (raiseIf b a p).pins = p.pins ∧
      (raiseIf b a p).control.mode = p.control.mode ∧
      (raiseIf b a p).control.lineStop = p.control.lineStop ∧
      (raiseIf b a p).control.operatorHold = p.control.operatorHold ∧
      (raiseIf b a p).control.fault = p.control.fault := by
  simp only [raiseIf]
  split <;> simp

@[simp] theorem raiseIf_port (b : Bool) (a : Alarm) : (raiseIf b a p).port = p.port :=
  (raiseIf_leaves p b a).1
@[simp] theorem raiseIf_tracker (b : Bool) (a : Alarm) : (raiseIf b a p).tracker = p.tracker :=
  (raiseIf_leaves p b a).2.1
@[simp] theorem raiseIf_sampling (b : Bool) (a : Alarm) : (raiseIf b a p).sampling = p.sampling :=
  (raiseIf_leaves p b a).2.2.1
@[simp] theorem raiseIf_regulator (b : Bool) (a : Alarm) : (raiseIf b a p).regulator = p.regulator :=
  (raiseIf_leaves p b a).2.2.2.1
@[simp] theorem raiseIf_sequencer (b : Bool) (a : Alarm) : (raiseIf b a p).sequencer = p.sequencer :=
  (raiseIf_leaves p b a).2.2.2.2.1
@[simp] theorem raiseIf_dose (b : Bool) (a : Alarm) : (raiseIf b a p).dose = p.dose :=
  (raiseIf_leaves p b a).2.2.2.2.2.1
@[simp] theorem raiseIf_monitor (b : Bool) (a : Alarm) : (raiseIf b a p).monitor = p.monitor :=
  (raiseIf_leaves p b a).2.2.2.2.2.2.1
@[simp] theorem raiseIf_log (b : Bool) (a : Alarm) : (raiseIf b a p).log = p.log :=
  (raiseIf_leaves p b a).2.2.2.2.2.2.2.1
@[simp] theorem raiseIf_responder (b : Bool) (a : Alarm) : (raiseIf b a p).responder = p.responder :=
  (raiseIf_leaves p b a).2.2.2.2.2.2.2.2.1
@[simp] theorem raiseIf_loader (b : Bool) (a : Alarm) : (raiseIf b a p).loader = p.loader :=
  (raiseIf_leaves p b a).2.2.2.2.2.2.2.2.2.1
@[simp] theorem raiseIf_pins (b : Bool) (a : Alarm) : (raiseIf b a p).pins = p.pins :=
  (raiseIf_leaves p b a).2.2.2.2.2.2.2.2.2.2.1
@[simp] theorem raiseIf_mode (b : Bool) (a : Alarm) : (raiseIf b a p).control.mode = p.control.mode :=
  (raiseIf_leaves p b a).2.2.2.2.2.2.2.2.2.2.2.1
@[simp] theorem raiseIf_lineStop (b : Bool) (a : Alarm) : (raiseIf b a p).control.lineStop = p.control.lineStop :=
  (raiseIf_leaves p b a).2.2.2.2.2.2.2.2.2.2.2.2.1
@[simp] theorem raiseIf_operatorHold (b : Bool) (a : Alarm) : (raiseIf b a p).control.operatorHold = p.control.operatorHold :=
  (raiseIf_leaves p b a).2.2.2.2.2.2.2.2.2.2.2.2.2.1
@[simp] theorem raiseIf_fault (b : Bool) (a : Alarm) : (raiseIf b a p).control.fault = p.control.fault :=
  (raiseIf_leaves p b a).2.2.2.2.2.2.2.2.2.2.2.2.2.2

theorem count_leaves (e : Event) :
    (count e p).port = p.port ∧
      (count e p).tracker = p.tracker ∧
      (count e p).sampling = p.sampling ∧
      (count e p).regulator = p.regulator ∧
      (count e p).sequencer = p.sequencer ∧
      (count e p).dose = p.dose ∧
      (count e p).control = p.control ∧
      (count e p).log = p.log ∧
      (count e p).responder = p.responder ∧
      (count e p).loader = p.loader ∧
      (count e p).pins = p.pins := by
  simp [count]

@[simp] theorem count_port (e : Event) : (count e p).port = p.port :=
  (count_leaves p e).1
@[simp] theorem count_tracker (e : Event) : (count e p).tracker = p.tracker :=
  (count_leaves p e).2.1
@[simp] theorem count_sampling (e : Event) : (count e p).sampling = p.sampling :=
  (count_leaves p e).2.2.1
@[simp] theorem count_regulator (e : Event) : (count e p).regulator = p.regulator :=
  (count_leaves p e).2.2.2.1
@[simp] theorem count_sequencer (e : Event) : (count e p).sequencer = p.sequencer :=
  (count_leaves p e).2.2.2.2.1
@[simp] theorem count_dose (e : Event) : (count e p).dose = p.dose :=
  (count_leaves p e).2.2.2.2.2.1
@[simp] theorem count_control (e : Event) : (count e p).control = p.control :=
  (count_leaves p e).2.2.2.2.2.2.1
@[simp] theorem count_log (e : Event) : (count e p).log = p.log :=
  (count_leaves p e).2.2.2.2.2.2.2.1
@[simp] theorem count_responder (e : Event) : (count e p).responder = p.responder :=
  (count_leaves p e).2.2.2.2.2.2.2.2.1
@[simp] theorem count_loader (e : Event) : (count e p).loader = p.loader :=
  (count_leaves p e).2.2.2.2.2.2.2.2.2.1
@[simp] theorem count_pins (e : Event) : (count e p).pins = p.pins :=
  (count_leaves p e).2.2.2.2.2.2.2.2.2.2

theorem countAmount_leaves (e : Event) (n : Nat) :
    (countAmount e n p).port = p.port ∧
      (countAmount e n p).tracker = p.tracker ∧
      (countAmount e n p).sampling = p.sampling ∧
      (countAmount e n p).regulator = p.regulator ∧
      (countAmount e n p).sequencer = p.sequencer ∧
      (countAmount e n p).dose = p.dose ∧
      (countAmount e n p).control = p.control ∧
      (countAmount e n p).log = p.log ∧
      (countAmount e n p).responder = p.responder ∧
      (countAmount e n p).loader = p.loader ∧
      (countAmount e n p).pins = p.pins := by
  simp [countAmount]

@[simp] theorem countAmount_port (e : Event) (n : Nat) : (countAmount e n p).port = p.port :=
  (countAmount_leaves p e n).1
@[simp] theorem countAmount_tracker (e : Event) (n : Nat) : (countAmount e n p).tracker = p.tracker :=
  (countAmount_leaves p e n).2.1
@[simp] theorem countAmount_sampling (e : Event) (n : Nat) : (countAmount e n p).sampling = p.sampling :=
  (countAmount_leaves p e n).2.2.1
@[simp] theorem countAmount_regulator (e : Event) (n : Nat) : (countAmount e n p).regulator = p.regulator :=
  (countAmount_leaves p e n).2.2.2.1
@[simp] theorem countAmount_sequencer (e : Event) (n : Nat) : (countAmount e n p).sequencer = p.sequencer :=
  (countAmount_leaves p e n).2.2.2.2.1
@[simp] theorem countAmount_dose (e : Event) (n : Nat) : (countAmount e n p).dose = p.dose :=
  (countAmount_leaves p e n).2.2.2.2.2.1
@[simp] theorem countAmount_control (e : Event) (n : Nat) : (countAmount e n p).control = p.control :=
  (countAmount_leaves p e n).2.2.2.2.2.2.1
@[simp] theorem countAmount_log (e : Event) (n : Nat) : (countAmount e n p).log = p.log :=
  (countAmount_leaves p e n).2.2.2.2.2.2.2.1
@[simp] theorem countAmount_responder (e : Event) (n : Nat) : (countAmount e n p).responder = p.responder :=
  (countAmount_leaves p e n).2.2.2.2.2.2.2.2.1
@[simp] theorem countAmount_loader (e : Event) (n : Nat) : (countAmount e n p).loader = p.loader :=
  (countAmount_leaves p e n).2.2.2.2.2.2.2.2.2.1
@[simp] theorem countAmount_pins (e : Event) (n : Nat) : (countAmount e n p).pins = p.pins :=
  (countAmount_leaves p e n).2.2.2.2.2.2.2.2.2.2

theorem countTimes_leaves (e : Event) (k : Nat) :
    (countTimes e k p).port = p.port ∧
      (countTimes e k p).tracker = p.tracker ∧
      (countTimes e k p).sampling = p.sampling ∧
      (countTimes e k p).regulator = p.regulator ∧
      (countTimes e k p).sequencer = p.sequencer ∧
      (countTimes e k p).dose = p.dose ∧
      (countTimes e k p).control = p.control ∧
      (countTimes e k p).log = p.log ∧
      (countTimes e k p).responder = p.responder ∧
      (countTimes e k p).loader = p.loader ∧
      (countTimes e k p).pins = p.pins := by
  induction k generalizing p with
  | zero => simp [countTimes]
  | succ k ih => simp [countTimes, ih]

@[simp] theorem countTimes_port (e : Event) (k : Nat) : (countTimes e k p).port = p.port :=
  (countTimes_leaves p e k).1
@[simp] theorem countTimes_tracker (e : Event) (k : Nat) : (countTimes e k p).tracker = p.tracker :=
  (countTimes_leaves p e k).2.1
@[simp] theorem countTimes_sampling (e : Event) (k : Nat) : (countTimes e k p).sampling = p.sampling :=
  (countTimes_leaves p e k).2.2.1
@[simp] theorem countTimes_regulator (e : Event) (k : Nat) : (countTimes e k p).regulator = p.regulator :=
  (countTimes_leaves p e k).2.2.2.1
@[simp] theorem countTimes_sequencer (e : Event) (k : Nat) : (countTimes e k p).sequencer = p.sequencer :=
  (countTimes_leaves p e k).2.2.2.2.1
@[simp] theorem countTimes_dose (e : Event) (k : Nat) : (countTimes e k p).dose = p.dose :=
  (countTimes_leaves p e k).2.2.2.2.2.1
@[simp] theorem countTimes_control (e : Event) (k : Nat) : (countTimes e k p).control = p.control :=
  (countTimes_leaves p e k).2.2.2.2.2.2.1
@[simp] theorem countTimes_log (e : Event) (k : Nat) : (countTimes e k p).log = p.log :=
  (countTimes_leaves p e k).2.2.2.2.2.2.2.1
@[simp] theorem countTimes_responder (e : Event) (k : Nat) : (countTimes e k p).responder = p.responder :=
  (countTimes_leaves p e k).2.2.2.2.2.2.2.2.1
@[simp] theorem countTimes_loader (e : Event) (k : Nat) : (countTimes e k p).loader = p.loader :=
  (countTimes_leaves p e k).2.2.2.2.2.2.2.2.2.1
@[simp] theorem countTimes_pins (e : Event) (k : Nat) : (countTimes e k p).pins = p.pins :=
  (countTimes_leaves p e k).2.2.2.2.2.2.2.2.2.2

theorem countLanes_leaves (e : Event) (xs : List (Nat × Nat)) :
    (countLanes e xs p).port = p.port ∧
      (countLanes e xs p).tracker = p.tracker ∧
      (countLanes e xs p).sampling = p.sampling ∧
      (countLanes e xs p).regulator = p.regulator ∧
      (countLanes e xs p).sequencer = p.sequencer ∧
      (countLanes e xs p).dose = p.dose ∧
      (countLanes e xs p).control = p.control ∧
      (countLanes e xs p).log = p.log ∧
      (countLanes e xs p).responder = p.responder ∧
      (countLanes e xs p).loader = p.loader ∧
      (countLanes e xs p).pins = p.pins := by
  simp [countLanes]

@[simp] theorem countLanes_port (e : Event) (xs : List (Nat × Nat)) : (countLanes e xs p).port = p.port :=
  (countLanes_leaves p e xs).1
@[simp] theorem countLanes_tracker (e : Event) (xs : List (Nat × Nat)) : (countLanes e xs p).tracker = p.tracker :=
  (countLanes_leaves p e xs).2.1
@[simp] theorem countLanes_sampling (e : Event) (xs : List (Nat × Nat)) : (countLanes e xs p).sampling = p.sampling :=
  (countLanes_leaves p e xs).2.2.1
@[simp] theorem countLanes_regulator (e : Event) (xs : List (Nat × Nat)) : (countLanes e xs p).regulator = p.regulator :=
  (countLanes_leaves p e xs).2.2.2.1
@[simp] theorem countLanes_sequencer (e : Event) (xs : List (Nat × Nat)) : (countLanes e xs p).sequencer = p.sequencer :=
  (countLanes_leaves p e xs).2.2.2.2.1
@[simp] theorem countLanes_dose (e : Event) (xs : List (Nat × Nat)) : (countLanes e xs p).dose = p.dose :=
  (countLanes_leaves p e xs).2.2.2.2.2.1
@[simp] theorem countLanes_control (e : Event) (xs : List (Nat × Nat)) : (countLanes e xs p).control = p.control :=
  (countLanes_leaves p e xs).2.2.2.2.2.2.1
@[simp] theorem countLanes_log (e : Event) (xs : List (Nat × Nat)) : (countLanes e xs p).log = p.log :=
  (countLanes_leaves p e xs).2.2.2.2.2.2.2.1
@[simp] theorem countLanes_responder (e : Event) (xs : List (Nat × Nat)) : (countLanes e xs p).responder = p.responder :=
  (countLanes_leaves p e xs).2.2.2.2.2.2.2.2.1
@[simp] theorem countLanes_loader (e : Event) (xs : List (Nat × Nat)) : (countLanes e xs p).loader = p.loader :=
  (countLanes_leaves p e xs).2.2.2.2.2.2.2.2.2.1
@[simp] theorem countLanes_pins (e : Event) (xs : List (Nat × Nat)) : (countLanes e xs p).pins = p.pins :=
  (countLanes_leaves p e xs).2.2.2.2.2.2.2.2.2.2

theorem withQueue_leaves (q : List TxFrame) :
    (withQueue q p).tracker = p.tracker ∧
      (withQueue q p).sampling = p.sampling ∧
      (withQueue q p).regulator = p.regulator ∧
      (withQueue q p).sequencer = p.sequencer ∧
      (withQueue q p).dose = p.dose ∧
      (withQueue q p).control = p.control ∧
      (withQueue q p).monitor = p.monitor ∧
      (withQueue q p).log = p.log ∧
      (withQueue q p).responder = p.responder ∧
      (withQueue q p).loader = p.loader ∧
      (withQueue q p).pins = p.pins := by
  simp [withQueue]

@[simp] theorem withQueue_tracker (q : List TxFrame) : (withQueue q p).tracker = p.tracker :=
  (withQueue_leaves p q).1
@[simp] theorem withQueue_sampling (q : List TxFrame) : (withQueue q p).sampling = p.sampling :=
  (withQueue_leaves p q).2.1
@[simp] theorem withQueue_regulator (q : List TxFrame) : (withQueue q p).regulator = p.regulator :=
  (withQueue_leaves p q).2.2.1
@[simp] theorem withQueue_sequencer (q : List TxFrame) : (withQueue q p).sequencer = p.sequencer :=
  (withQueue_leaves p q).2.2.2.1
@[simp] theorem withQueue_dose (q : List TxFrame) : (withQueue q p).dose = p.dose :=
  (withQueue_leaves p q).2.2.2.2.1
@[simp] theorem withQueue_control (q : List TxFrame) : (withQueue q p).control = p.control :=
  (withQueue_leaves p q).2.2.2.2.2.1
@[simp] theorem withQueue_monitor (q : List TxFrame) : (withQueue q p).monitor = p.monitor :=
  (withQueue_leaves p q).2.2.2.2.2.2.1
@[simp] theorem withQueue_log (q : List TxFrame) : (withQueue q p).log = p.log :=
  (withQueue_leaves p q).2.2.2.2.2.2.2.1
@[simp] theorem withQueue_responder (q : List TxFrame) : (withQueue q p).responder = p.responder :=
  (withQueue_leaves p q).2.2.2.2.2.2.2.2.1
@[simp] theorem withQueue_loader (q : List TxFrame) : (withQueue q p).loader = p.loader :=
  (withQueue_leaves p q).2.2.2.2.2.2.2.2.2.1
@[simp] theorem withQueue_pins (q : List TxFrame) : (withQueue q p).pins = p.pins :=
  (withQueue_leaves p q).2.2.2.2.2.2.2.2.2.2

theorem joinQueue_leaves (f : TxFrame) :
    (joinQueue f p).tracker = p.tracker ∧
      (joinQueue f p).sampling = p.sampling ∧
      (joinQueue f p).regulator = p.regulator ∧
      (joinQueue f p).sequencer = p.sequencer ∧
      (joinQueue f p).dose = p.dose ∧
      (joinQueue f p).log = p.log ∧
      (joinQueue f p).responder = p.responder ∧
      (joinQueue f p).loader = p.loader ∧
      (joinQueue f p).pins = p.pins ∧
      (joinQueue f p).control.mode = p.control.mode ∧
      (joinQueue f p).control.lineStop = p.control.lineStop ∧
      (joinQueue f p).control.operatorHold = p.control.operatorHold ∧
      (joinQueue f p).control.fault = p.control.fault := by
  simp only [joinQueue]
  repeat' split
  all_goals simp

@[simp] theorem joinQueue_tracker (f : TxFrame) : (joinQueue f p).tracker = p.tracker :=
  (joinQueue_leaves p f).1
@[simp] theorem joinQueue_sampling (f : TxFrame) : (joinQueue f p).sampling = p.sampling :=
  (joinQueue_leaves p f).2.1
@[simp] theorem joinQueue_regulator (f : TxFrame) : (joinQueue f p).regulator = p.regulator :=
  (joinQueue_leaves p f).2.2.1
@[simp] theorem joinQueue_sequencer (f : TxFrame) : (joinQueue f p).sequencer = p.sequencer :=
  (joinQueue_leaves p f).2.2.2.1
@[simp] theorem joinQueue_dose (f : TxFrame) : (joinQueue f p).dose = p.dose :=
  (joinQueue_leaves p f).2.2.2.2.1
@[simp] theorem joinQueue_log (f : TxFrame) : (joinQueue f p).log = p.log :=
  (joinQueue_leaves p f).2.2.2.2.2.1
@[simp] theorem joinQueue_responder (f : TxFrame) : (joinQueue f p).responder = p.responder :=
  (joinQueue_leaves p f).2.2.2.2.2.2.1
@[simp] theorem joinQueue_loader (f : TxFrame) : (joinQueue f p).loader = p.loader :=
  (joinQueue_leaves p f).2.2.2.2.2.2.2.1
@[simp] theorem joinQueue_pins (f : TxFrame) : (joinQueue f p).pins = p.pins :=
  (joinQueue_leaves p f).2.2.2.2.2.2.2.2.1
@[simp] theorem joinQueue_mode (f : TxFrame) : (joinQueue f p).control.mode = p.control.mode :=
  (joinQueue_leaves p f).2.2.2.2.2.2.2.2.2.1
@[simp] theorem joinQueue_lineStop (f : TxFrame) : (joinQueue f p).control.lineStop = p.control.lineStop :=
  (joinQueue_leaves p f).2.2.2.2.2.2.2.2.2.2.1
@[simp] theorem joinQueue_operatorHold (f : TxFrame) : (joinQueue f p).control.operatorHold = p.control.operatorHold :=
  (joinQueue_leaves p f).2.2.2.2.2.2.2.2.2.2.2.1
@[simp] theorem joinQueue_fault (f : TxFrame) : (joinQueue f p).control.fault = p.control.fault :=
  (joinQueue_leaves p f).2.2.2.2.2.2.2.2.2.2.2.2

theorem tryBegin_leaves :
    (tryBegin p).tracker = p.tracker ∧
      (tryBegin p).sampling = p.sampling ∧
      (tryBegin p).regulator = p.regulator ∧
      (tryBegin p).sequencer = p.sequencer ∧
      (tryBegin p).dose = p.dose ∧
      (tryBegin p).control = p.control ∧
      (tryBegin p).monitor = p.monitor ∧
      (tryBegin p).log = p.log ∧
      (tryBegin p).responder = p.responder ∧
      (tryBegin p).loader = p.loader ∧
      (tryBegin p).pins = p.pins := by
  simp only [tryBegin]
  split <;> simp

@[simp] theorem tryBegin_tracker : (tryBegin p).tracker = p.tracker :=
  (tryBegin_leaves p).1
@[simp] theorem tryBegin_sampling : (tryBegin p).sampling = p.sampling :=
  (tryBegin_leaves p).2.1
@[simp] theorem tryBegin_regulator : (tryBegin p).regulator = p.regulator :=
  (tryBegin_leaves p).2.2.1
@[simp] theorem tryBegin_sequencer : (tryBegin p).sequencer = p.sequencer :=
  (tryBegin_leaves p).2.2.2.1
@[simp] theorem tryBegin_dose : (tryBegin p).dose = p.dose :=
  (tryBegin_leaves p).2.2.2.2.1
@[simp] theorem tryBegin_control : (tryBegin p).control = p.control :=
  (tryBegin_leaves p).2.2.2.2.2.1
@[simp] theorem tryBegin_monitor : (tryBegin p).monitor = p.monitor :=
  (tryBegin_leaves p).2.2.2.2.2.2.1
@[simp] theorem tryBegin_log : (tryBegin p).log = p.log :=
  (tryBegin_leaves p).2.2.2.2.2.2.2.1
@[simp] theorem tryBegin_responder : (tryBegin p).responder = p.responder :=
  (tryBegin_leaves p).2.2.2.2.2.2.2.2.1
@[simp] theorem tryBegin_loader : (tryBegin p).loader = p.loader :=
  (tryBegin_leaves p).2.2.2.2.2.2.2.2.2.1
@[simp] theorem tryBegin_pins : (tryBegin p).pins = p.pins :=
  (tryBegin_leaves p).2.2.2.2.2.2.2.2.2.2

theorem join_leaves (f : TxFrame) :
    (join f p).tracker = p.tracker ∧
      (join f p).sampling = p.sampling ∧
      (join f p).regulator = p.regulator ∧
      (join f p).sequencer = p.sequencer ∧
      (join f p).dose = p.dose ∧
      (join f p).log = p.log ∧
      (join f p).responder = p.responder ∧
      (join f p).loader = p.loader ∧
      (join f p).pins = p.pins ∧
      (join f p).control.mode = p.control.mode ∧
      (join f p).control.lineStop = p.control.lineStop ∧
      (join f p).control.operatorHold = p.control.operatorHold ∧
      (join f p).control.fault = p.control.fault := by
  simp [join]

@[simp] theorem join_tracker (f : TxFrame) : (join f p).tracker = p.tracker :=
  (join_leaves p f).1
@[simp] theorem join_sampling (f : TxFrame) : (join f p).sampling = p.sampling :=
  (join_leaves p f).2.1
@[simp] theorem join_regulator (f : TxFrame) : (join f p).regulator = p.regulator :=
  (join_leaves p f).2.2.1
@[simp] theorem join_sequencer (f : TxFrame) : (join f p).sequencer = p.sequencer :=
  (join_leaves p f).2.2.2.1
@[simp] theorem join_dose (f : TxFrame) : (join f p).dose = p.dose :=
  (join_leaves p f).2.2.2.2.1
@[simp] theorem join_log (f : TxFrame) : (join f p).log = p.log :=
  (join_leaves p f).2.2.2.2.2.1
@[simp] theorem join_responder (f : TxFrame) : (join f p).responder = p.responder :=
  (join_leaves p f).2.2.2.2.2.2.1
@[simp] theorem join_loader (f : TxFrame) : (join f p).loader = p.loader :=
  (join_leaves p f).2.2.2.2.2.2.2.1
@[simp] theorem join_pins (f : TxFrame) : (join f p).pins = p.pins :=
  (join_leaves p f).2.2.2.2.2.2.2.2.1
@[simp] theorem join_mode (f : TxFrame) : (join f p).control.mode = p.control.mode :=
  (join_leaves p f).2.2.2.2.2.2.2.2.2.1
@[simp] theorem join_lineStop (f : TxFrame) : (join f p).control.lineStop = p.control.lineStop :=
  (join_leaves p f).2.2.2.2.2.2.2.2.2.2.1
@[simp] theorem join_operatorHold (f : TxFrame) : (join f p).control.operatorHold = p.control.operatorHold :=
  (join_leaves p f).2.2.2.2.2.2.2.2.2.2.2.1
@[simp] theorem join_fault (f : TxFrame) : (join f p).control.fault = p.control.fault :=
  (join_leaves p f).2.2.2.2.2.2.2.2.2.2.2.2

theorem send_leaves (b : FrameBody) :
    (send b p).tracker = p.tracker ∧
      (send b p).sampling = p.sampling ∧
      (send b p).regulator = p.regulator ∧
      (send b p).sequencer = p.sequencer ∧
      (send b p).dose = p.dose ∧
      (send b p).log = p.log ∧
      (send b p).responder = p.responder ∧
      (send b p).loader = p.loader ∧
      (send b p).pins = p.pins ∧
      (send b p).control.mode = p.control.mode ∧
      (send b p).control.lineStop = p.control.lineStop ∧
      (send b p).control.operatorHold = p.control.operatorHold ∧
      (send b p).control.fault = p.control.fault := by
  simp [send]

@[simp] theorem send_tracker (b : FrameBody) : (send b p).tracker = p.tracker :=
  (send_leaves p b).1
@[simp] theorem send_sampling (b : FrameBody) : (send b p).sampling = p.sampling :=
  (send_leaves p b).2.1
@[simp] theorem send_regulator (b : FrameBody) : (send b p).regulator = p.regulator :=
  (send_leaves p b).2.2.1
@[simp] theorem send_sequencer (b : FrameBody) : (send b p).sequencer = p.sequencer :=
  (send_leaves p b).2.2.2.1
@[simp] theorem send_dose (b : FrameBody) : (send b p).dose = p.dose :=
  (send_leaves p b).2.2.2.2.1
@[simp] theorem send_log (b : FrameBody) : (send b p).log = p.log :=
  (send_leaves p b).2.2.2.2.2.1
@[simp] theorem send_responder (b : FrameBody) : (send b p).responder = p.responder :=
  (send_leaves p b).2.2.2.2.2.2.1
@[simp] theorem send_loader (b : FrameBody) : (send b p).loader = p.loader :=
  (send_leaves p b).2.2.2.2.2.2.2.1
@[simp] theorem send_pins (b : FrameBody) : (send b p).pins = p.pins :=
  (send_leaves p b).2.2.2.2.2.2.2.2.1
@[simp] theorem send_mode (b : FrameBody) : (send b p).control.mode = p.control.mode :=
  (send_leaves p b).2.2.2.2.2.2.2.2.2.1
@[simp] theorem send_lineStop (b : FrameBody) : (send b p).control.lineStop = p.control.lineStop :=
  (send_leaves p b).2.2.2.2.2.2.2.2.2.2.1
@[simp] theorem send_operatorHold (b : FrameBody) : (send b p).control.operatorHold = p.control.operatorHold :=
  (send_leaves p b).2.2.2.2.2.2.2.2.2.2.2.1
@[simp] theorem send_fault (b : FrameBody) : (send b p).control.fault = p.control.fault :=
  (send_leaves p b).2.2.2.2.2.2.2.2.2.2.2.2

theorem ageQueue_leaves :
    (ageQueue p).tracker = p.tracker ∧
      (ageQueue p).sampling = p.sampling ∧
      (ageQueue p).regulator = p.regulator ∧
      (ageQueue p).sequencer = p.sequencer ∧
      (ageQueue p).dose = p.dose ∧
      (ageQueue p).control = p.control ∧
      (ageQueue p).log = p.log ∧
      (ageQueue p).responder = p.responder ∧
      (ageQueue p).loader = p.loader ∧
      (ageQueue p).pins = p.pins := by
  simp [ageQueue]

@[simp] theorem ageQueue_tracker : (ageQueue p).tracker = p.tracker :=
  (ageQueue_leaves p).1
@[simp] theorem ageQueue_sampling : (ageQueue p).sampling = p.sampling :=
  (ageQueue_leaves p).2.1
@[simp] theorem ageQueue_regulator : (ageQueue p).regulator = p.regulator :=
  (ageQueue_leaves p).2.2.1
@[simp] theorem ageQueue_sequencer : (ageQueue p).sequencer = p.sequencer :=
  (ageQueue_leaves p).2.2.2.1
@[simp] theorem ageQueue_dose : (ageQueue p).dose = p.dose :=
  (ageQueue_leaves p).2.2.2.2.1
@[simp] theorem ageQueue_control : (ageQueue p).control = p.control :=
  (ageQueue_leaves p).2.2.2.2.2.1
@[simp] theorem ageQueue_log : (ageQueue p).log = p.log :=
  (ageQueue_leaves p).2.2.2.2.2.2.1
@[simp] theorem ageQueue_responder : (ageQueue p).responder = p.responder :=
  (ageQueue_leaves p).2.2.2.2.2.2.2.1
@[simp] theorem ageQueue_loader : (ageQueue p).loader = p.loader :=
  (ageQueue_leaves p).2.2.2.2.2.2.2.2.1
@[simp] theorem ageQueue_pins : (ageQueue p).pins = p.pins :=
  (ageQueue_leaves p).2.2.2.2.2.2.2.2.2

theorem endUnsent_leaves :
    (endUnsent p).tracker = p.tracker ∧
      (endUnsent p).sampling = p.sampling ∧
      (endUnsent p).regulator = p.regulator ∧
      (endUnsent p).sequencer = p.sequencer ∧
      (endUnsent p).dose = p.dose ∧
      (endUnsent p).control = p.control ∧
      (endUnsent p).log = p.log ∧
      (endUnsent p).responder = p.responder ∧
      (endUnsent p).loader = p.loader ∧
      (endUnsent p).pins = p.pins := by
  simp only [endUnsent]
  repeat' split
  all_goals simp

@[simp] theorem endUnsent_tracker : (endUnsent p).tracker = p.tracker :=
  (endUnsent_leaves p).1
@[simp] theorem endUnsent_sampling : (endUnsent p).sampling = p.sampling :=
  (endUnsent_leaves p).2.1
@[simp] theorem endUnsent_regulator : (endUnsent p).regulator = p.regulator :=
  (endUnsent_leaves p).2.2.1
@[simp] theorem endUnsent_sequencer : (endUnsent p).sequencer = p.sequencer :=
  (endUnsent_leaves p).2.2.2.1
@[simp] theorem endUnsent_dose : (endUnsent p).dose = p.dose :=
  (endUnsent_leaves p).2.2.2.2.1
@[simp] theorem endUnsent_control : (endUnsent p).control = p.control :=
  (endUnsent_leaves p).2.2.2.2.2.1
@[simp] theorem endUnsent_log : (endUnsent p).log = p.log :=
  (endUnsent_leaves p).2.2.2.2.2.2.1
@[simp] theorem endUnsent_responder : (endUnsent p).responder = p.responder :=
  (endUnsent_leaves p).2.2.2.2.2.2.2.1
@[simp] theorem endUnsent_loader : (endUnsent p).loader = p.loader :=
  (endUnsent_leaves p).2.2.2.2.2.2.2.2.1
@[simp] theorem endUnsent_pins : (endUnsent p).pins = p.pins :=
  (endUnsent_leaves p).2.2.2.2.2.2.2.2.2

theorem endSent_leaves :
    (endSent p).tracker = p.tracker ∧
      (endSent p).sampling = p.sampling ∧
      (endSent p).regulator = p.regulator ∧
      (endSent p).sequencer = p.sequencer ∧
      (endSent p).dose = p.dose ∧
      (endSent p).control = p.control ∧
      (endSent p).log = p.log ∧
      (endSent p).responder = p.responder ∧
      (endSent p).loader = p.loader ∧
      (endSent p).pins = p.pins := by
  simp only [endSent]
  split <;> simp

@[simp] theorem endSent_tracker : (endSent p).tracker = p.tracker :=
  (endSent_leaves p).1
@[simp] theorem endSent_sampling : (endSent p).sampling = p.sampling :=
  (endSent_leaves p).2.1
@[simp] theorem endSent_regulator : (endSent p).regulator = p.regulator :=
  (endSent_leaves p).2.2.1
@[simp] theorem endSent_sequencer : (endSent p).sequencer = p.sequencer :=
  (endSent_leaves p).2.2.2.1
@[simp] theorem endSent_dose : (endSent p).dose = p.dose :=
  (endSent_leaves p).2.2.2.2.1
@[simp] theorem endSent_control : (endSent p).control = p.control :=
  (endSent_leaves p).2.2.2.2.2.1
@[simp] theorem endSent_log : (endSent p).log = p.log :=
  (endSent_leaves p).2.2.2.2.2.2.1
@[simp] theorem endSent_responder : (endSent p).responder = p.responder :=
  (endSent_leaves p).2.2.2.2.2.2.2.1
@[simp] theorem endSent_loader : (endSent p).loader = p.loader :=
  (endSent_leaves p).2.2.2.2.2.2.2.2.1
@[simp] theorem endSent_pins : (endSent p).pins = p.pins :=
  (endSent_leaves p).2.2.2.2.2.2.2.2.2

theorem expireReply_leaves :
    (expireReply p).tracker = p.tracker ∧
      (expireReply p).sampling = p.sampling ∧
      (expireReply p).regulator = p.regulator ∧
      (expireReply p).sequencer = p.sequencer ∧
      (expireReply p).dose = p.dose ∧
      (expireReply p).control = p.control ∧
      (expireReply p).log = p.log ∧
      (expireReply p).responder = p.responder ∧
      (expireReply p).loader = p.loader ∧
      (expireReply p).pins = p.pins := by
  simp only [expireReply]
  repeat' split
  all_goals simp

@[simp] theorem expireReply_tracker : (expireReply p).tracker = p.tracker :=
  (expireReply_leaves p).1
@[simp] theorem expireReply_sampling : (expireReply p).sampling = p.sampling :=
  (expireReply_leaves p).2.1
@[simp] theorem expireReply_regulator : (expireReply p).regulator = p.regulator :=
  (expireReply_leaves p).2.2.1
@[simp] theorem expireReply_sequencer : (expireReply p).sequencer = p.sequencer :=
  (expireReply_leaves p).2.2.2.1
@[simp] theorem expireReply_dose : (expireReply p).dose = p.dose :=
  (expireReply_leaves p).2.2.2.2.1
@[simp] theorem expireReply_control : (expireReply p).control = p.control :=
  (expireReply_leaves p).2.2.2.2.2.1
@[simp] theorem expireReply_log : (expireReply p).log = p.log :=
  (expireReply_leaves p).2.2.2.2.2.2.1
@[simp] theorem expireReply_responder : (expireReply p).responder = p.responder :=
  (expireReply_leaves p).2.2.2.2.2.2.2.1
@[simp] theorem expireReply_loader : (expireReply p).loader = p.loader :=
  (expireReply_leaves p).2.2.2.2.2.2.2.2.1
@[simp] theorem expireReply_pins : (expireReply p).pins = p.pins :=
  (expireReply_leaves p).2.2.2.2.2.2.2.2.2

theorem addEntry_leaves (e : LogEntry) :
    (addEntry e p).port = p.port ∧
      (addEntry e p).tracker = p.tracker ∧
      (addEntry e p).sampling = p.sampling ∧
      (addEntry e p).regulator = p.regulator ∧
      (addEntry e p).sequencer = p.sequencer ∧
      (addEntry e p).dose = p.dose ∧
      (addEntry e p).monitor = p.monitor ∧
      (addEntry e p).responder = p.responder ∧
      (addEntry e p).loader = p.loader ∧
      (addEntry e p).pins = p.pins ∧
      (addEntry e p).control.mode = p.control.mode ∧
      (addEntry e p).control.lineStop = p.control.lineStop ∧
      (addEntry e p).control.operatorHold = p.control.operatorHold ∧
      (addEntry e p).control.fault = p.control.fault := by
  simp only [addEntry]
  split <;> simp

@[simp] theorem addEntry_port (e : LogEntry) : (addEntry e p).port = p.port :=
  (addEntry_leaves p e).1
@[simp] theorem addEntry_tracker (e : LogEntry) : (addEntry e p).tracker = p.tracker :=
  (addEntry_leaves p e).2.1
@[simp] theorem addEntry_sampling (e : LogEntry) : (addEntry e p).sampling = p.sampling :=
  (addEntry_leaves p e).2.2.1
@[simp] theorem addEntry_regulator (e : LogEntry) : (addEntry e p).regulator = p.regulator :=
  (addEntry_leaves p e).2.2.2.1
@[simp] theorem addEntry_sequencer (e : LogEntry) : (addEntry e p).sequencer = p.sequencer :=
  (addEntry_leaves p e).2.2.2.2.1
@[simp] theorem addEntry_dose (e : LogEntry) : (addEntry e p).dose = p.dose :=
  (addEntry_leaves p e).2.2.2.2.2.1
@[simp] theorem addEntry_monitor (e : LogEntry) : (addEntry e p).monitor = p.monitor :=
  (addEntry_leaves p e).2.2.2.2.2.2.1
@[simp] theorem addEntry_responder (e : LogEntry) : (addEntry e p).responder = p.responder :=
  (addEntry_leaves p e).2.2.2.2.2.2.2.1
@[simp] theorem addEntry_loader (e : LogEntry) : (addEntry e p).loader = p.loader :=
  (addEntry_leaves p e).2.2.2.2.2.2.2.2.1
@[simp] theorem addEntry_pins (e : LogEntry) : (addEntry e p).pins = p.pins :=
  (addEntry_leaves p e).2.2.2.2.2.2.2.2.2.1
@[simp] theorem addEntry_mode (e : LogEntry) : (addEntry e p).control.mode = p.control.mode :=
  (addEntry_leaves p e).2.2.2.2.2.2.2.2.2.2.1
@[simp] theorem addEntry_lineStop (e : LogEntry) : (addEntry e p).control.lineStop = p.control.lineStop :=
  (addEntry_leaves p e).2.2.2.2.2.2.2.2.2.2.2.1
@[simp] theorem addEntry_operatorHold (e : LogEntry) : (addEntry e p).control.operatorHold = p.control.operatorHold :=
  (addEntry_leaves p e).2.2.2.2.2.2.2.2.2.2.2.2.1
@[simp] theorem addEntry_fault (e : LogEntry) : (addEntry e p).control.fault = p.control.fault :=
  (addEntry_leaves p e).2.2.2.2.2.2.2.2.2.2.2.2.2

theorem clearChatter_leaves :
    (clearChatter p).port = p.port ∧
      (clearChatter p).sampling = p.sampling ∧
      (clearChatter p).regulator = p.regulator ∧
      (clearChatter p).sequencer = p.sequencer ∧
      (clearChatter p).dose = p.dose ∧
      (clearChatter p).control = p.control ∧
      (clearChatter p).monitor = p.monitor ∧
      (clearChatter p).log = p.log ∧
      (clearChatter p).responder = p.responder ∧
      (clearChatter p).loader = p.loader ∧
      (clearChatter p).pins = p.pins := by
  simp [clearChatter]

@[simp] theorem clearChatter_port : (clearChatter p).port = p.port :=
  (clearChatter_leaves p).1
@[simp] theorem clearChatter_sampling : (clearChatter p).sampling = p.sampling :=
  (clearChatter_leaves p).2.1
@[simp] theorem clearChatter_regulator : (clearChatter p).regulator = p.regulator :=
  (clearChatter_leaves p).2.2.1
@[simp] theorem clearChatter_sequencer : (clearChatter p).sequencer = p.sequencer :=
  (clearChatter_leaves p).2.2.2.1
@[simp] theorem clearChatter_dose : (clearChatter p).dose = p.dose :=
  (clearChatter_leaves p).2.2.2.2.1
@[simp] theorem clearChatter_control : (clearChatter p).control = p.control :=
  (clearChatter_leaves p).2.2.2.2.2.1
@[simp] theorem clearChatter_monitor : (clearChatter p).monitor = p.monitor :=
  (clearChatter_leaves p).2.2.2.2.2.2.1
@[simp] theorem clearChatter_log : (clearChatter p).log = p.log :=
  (clearChatter_leaves p).2.2.2.2.2.2.2.1
@[simp] theorem clearChatter_responder : (clearChatter p).responder = p.responder :=
  (clearChatter_leaves p).2.2.2.2.2.2.2.2.1
@[simp] theorem clearChatter_loader : (clearChatter p).loader = p.loader :=
  (clearChatter_leaves p).2.2.2.2.2.2.2.2.2.1
@[simp] theorem clearChatter_pins : (clearChatter p).pins = p.pins :=
  (clearChatter_leaves p).2.2.2.2.2.2.2.2.2.2

theorem setLineStop_leaves :
    (setLineStop p).port = p.port ∧
      (setLineStop p).tracker = p.tracker ∧
      (setLineStop p).sampling = p.sampling ∧
      (setLineStop p).regulator = p.regulator ∧
      (setLineStop p).sequencer = p.sequencer ∧
      (setLineStop p).dose = p.dose ∧
      (setLineStop p).log = p.log ∧
      (setLineStop p).responder = p.responder ∧
      (setLineStop p).loader = p.loader ∧
      (setLineStop p).pins = p.pins ∧
      (setLineStop p).control.mode = p.control.mode ∧
      (setLineStop p).control.operatorHold = p.control.operatorHold ∧
      (setLineStop p).control.fault = p.control.fault := by
  simp [setLineStop]

@[simp] theorem setLineStop_port : (setLineStop p).port = p.port :=
  (setLineStop_leaves p).1
@[simp] theorem setLineStop_tracker : (setLineStop p).tracker = p.tracker :=
  (setLineStop_leaves p).2.1
@[simp] theorem setLineStop_sampling : (setLineStop p).sampling = p.sampling :=
  (setLineStop_leaves p).2.2.1
@[simp] theorem setLineStop_regulator : (setLineStop p).regulator = p.regulator :=
  (setLineStop_leaves p).2.2.2.1
@[simp] theorem setLineStop_sequencer : (setLineStop p).sequencer = p.sequencer :=
  (setLineStop_leaves p).2.2.2.2.1
@[simp] theorem setLineStop_dose : (setLineStop p).dose = p.dose :=
  (setLineStop_leaves p).2.2.2.2.2.1
@[simp] theorem setLineStop_log : (setLineStop p).log = p.log :=
  (setLineStop_leaves p).2.2.2.2.2.2.1
@[simp] theorem setLineStop_responder : (setLineStop p).responder = p.responder :=
  (setLineStop_leaves p).2.2.2.2.2.2.2.1
@[simp] theorem setLineStop_loader : (setLineStop p).loader = p.loader :=
  (setLineStop_leaves p).2.2.2.2.2.2.2.2.1
@[simp] theorem setLineStop_pins : (setLineStop p).pins = p.pins :=
  (setLineStop_leaves p).2.2.2.2.2.2.2.2.2.1
@[simp] theorem setLineStop_mode : (setLineStop p).control.mode = p.control.mode :=
  (setLineStop_leaves p).2.2.2.2.2.2.2.2.2.2.1
@[simp] theorem setLineStop_operatorHold : (setLineStop p).control.operatorHold = p.control.operatorHold :=
  (setLineStop_leaves p).2.2.2.2.2.2.2.2.2.2.2.1
@[simp] theorem setLineStop_fault : (setLineStop p).control.fault = p.control.fault :=
  (setLineStop_leaves p).2.2.2.2.2.2.2.2.2.2.2.2

theorem clearLineStop_leaves :
    (clearLineStop p).port = p.port ∧
      (clearLineStop p).tracker = p.tracker ∧
      (clearLineStop p).sampling = p.sampling ∧
      (clearLineStop p).regulator = p.regulator ∧
      (clearLineStop p).sequencer = p.sequencer ∧
      (clearLineStop p).dose = p.dose ∧
      (clearLineStop p).log = p.log ∧
      (clearLineStop p).responder = p.responder ∧
      (clearLineStop p).loader = p.loader ∧
      (clearLineStop p).pins = p.pins ∧
      (clearLineStop p).control.mode = p.control.mode ∧
      (clearLineStop p).control.operatorHold = p.control.operatorHold ∧
      (clearLineStop p).control.fault = p.control.fault := by
  simp [clearLineStop]

@[simp] theorem clearLineStop_port : (clearLineStop p).port = p.port :=
  (clearLineStop_leaves p).1
@[simp] theorem clearLineStop_tracker : (clearLineStop p).tracker = p.tracker :=
  (clearLineStop_leaves p).2.1
@[simp] theorem clearLineStop_sampling : (clearLineStop p).sampling = p.sampling :=
  (clearLineStop_leaves p).2.2.1
@[simp] theorem clearLineStop_regulator : (clearLineStop p).regulator = p.regulator :=
  (clearLineStop_leaves p).2.2.2.1
@[simp] theorem clearLineStop_sequencer : (clearLineStop p).sequencer = p.sequencer :=
  (clearLineStop_leaves p).2.2.2.2.1
@[simp] theorem clearLineStop_dose : (clearLineStop p).dose = p.dose :=
  (clearLineStop_leaves p).2.2.2.2.2.1
@[simp] theorem clearLineStop_log : (clearLineStop p).log = p.log :=
  (clearLineStop_leaves p).2.2.2.2.2.2.1
@[simp] theorem clearLineStop_responder : (clearLineStop p).responder = p.responder :=
  (clearLineStop_leaves p).2.2.2.2.2.2.2.1
@[simp] theorem clearLineStop_loader : (clearLineStop p).loader = p.loader :=
  (clearLineStop_leaves p).2.2.2.2.2.2.2.2.1
@[simp] theorem clearLineStop_pins : (clearLineStop p).pins = p.pins :=
  (clearLineStop_leaves p).2.2.2.2.2.2.2.2.2.1
@[simp] theorem clearLineStop_mode : (clearLineStop p).control.mode = p.control.mode :=
  (clearLineStop_leaves p).2.2.2.2.2.2.2.2.2.2.1
@[simp] theorem clearLineStop_operatorHold : (clearLineStop p).control.operatorHold = p.control.operatorHold :=
  (clearLineStop_leaves p).2.2.2.2.2.2.2.2.2.2.2.1
@[simp] theorem clearLineStop_fault : (clearLineStop p).control.fault = p.control.fault :=
  (clearLineStop_leaves p).2.2.2.2.2.2.2.2.2.2.2.2

theorem withRecords_leaves (rs : List RowRecord) :
    (withRecords rs p).port = p.port ∧
      (withRecords rs p).sampling = p.sampling ∧
      (withRecords rs p).regulator = p.regulator ∧
      (withRecords rs p).sequencer = p.sequencer ∧
      (withRecords rs p).dose = p.dose ∧
      (withRecords rs p).control = p.control ∧
      (withRecords rs p).monitor = p.monitor ∧
      (withRecords rs p).log = p.log ∧
      (withRecords rs p).responder = p.responder ∧
      (withRecords rs p).loader = p.loader ∧
      (withRecords rs p).pins = p.pins := by
  simp [withRecords]

@[simp] theorem withRecords_port (rs : List RowRecord) : (withRecords rs p).port = p.port :=
  (withRecords_leaves p rs).1
@[simp] theorem withRecords_sampling (rs : List RowRecord) : (withRecords rs p).sampling = p.sampling :=
  (withRecords_leaves p rs).2.1
@[simp] theorem withRecords_regulator (rs : List RowRecord) : (withRecords rs p).regulator = p.regulator :=
  (withRecords_leaves p rs).2.2.1
@[simp] theorem withRecords_sequencer (rs : List RowRecord) : (withRecords rs p).sequencer = p.sequencer :=
  (withRecords_leaves p rs).2.2.2.1
@[simp] theorem withRecords_dose (rs : List RowRecord) : (withRecords rs p).dose = p.dose :=
  (withRecords_leaves p rs).2.2.2.2.1
@[simp] theorem withRecords_control (rs : List RowRecord) : (withRecords rs p).control = p.control :=
  (withRecords_leaves p rs).2.2.2.2.2.1
@[simp] theorem withRecords_monitor (rs : List RowRecord) : (withRecords rs p).monitor = p.monitor :=
  (withRecords_leaves p rs).2.2.2.2.2.2.1
@[simp] theorem withRecords_log (rs : List RowRecord) : (withRecords rs p).log = p.log :=
  (withRecords_leaves p rs).2.2.2.2.2.2.2.1
@[simp] theorem withRecords_responder (rs : List RowRecord) : (withRecords rs p).responder = p.responder :=
  (withRecords_leaves p rs).2.2.2.2.2.2.2.2.1
@[simp] theorem withRecords_loader (rs : List RowRecord) : (withRecords rs p).loader = p.loader :=
  (withRecords_leaves p rs).2.2.2.2.2.2.2.2.2.1
@[simp] theorem withRecords_pins (rs : List RowRecord) : (withRecords rs p).pins = p.pins :=
  (withRecords_leaves p rs).2.2.2.2.2.2.2.2.2.2

theorem updateHead_leaves (f : RowRecord → RowRecord) :
    (updateHead f p).port = p.port ∧
      (updateHead f p).sampling = p.sampling ∧
      (updateHead f p).regulator = p.regulator ∧
      (updateHead f p).sequencer = p.sequencer ∧
      (updateHead f p).dose = p.dose ∧
      (updateHead f p).control = p.control ∧
      (updateHead f p).monitor = p.monitor ∧
      (updateHead f p).log = p.log ∧
      (updateHead f p).responder = p.responder ∧
      (updateHead f p).loader = p.loader ∧
      (updateHead f p).pins = p.pins := by
  simp [updateHead]

@[simp] theorem updateHead_port (f : RowRecord → RowRecord) : (updateHead f p).port = p.port :=
  (updateHead_leaves p f).1
@[simp] theorem updateHead_sampling (f : RowRecord → RowRecord) : (updateHead f p).sampling = p.sampling :=
  (updateHead_leaves p f).2.1
@[simp] theorem updateHead_regulator (f : RowRecord → RowRecord) : (updateHead f p).regulator = p.regulator :=
  (updateHead_leaves p f).2.2.1
@[simp] theorem updateHead_sequencer (f : RowRecord → RowRecord) : (updateHead f p).sequencer = p.sequencer :=
  (updateHead_leaves p f).2.2.2.1
@[simp] theorem updateHead_dose (f : RowRecord → RowRecord) : (updateHead f p).dose = p.dose :=
  (updateHead_leaves p f).2.2.2.2.1
@[simp] theorem updateHead_control (f : RowRecord → RowRecord) : (updateHead f p).control = p.control :=
  (updateHead_leaves p f).2.2.2.2.2.1
@[simp] theorem updateHead_monitor (f : RowRecord → RowRecord) : (updateHead f p).monitor = p.monitor :=
  (updateHead_leaves p f).2.2.2.2.2.2.1
@[simp] theorem updateHead_log (f : RowRecord → RowRecord) : (updateHead f p).log = p.log :=
  (updateHead_leaves p f).2.2.2.2.2.2.2.1
@[simp] theorem updateHead_responder (f : RowRecord → RowRecord) : (updateHead f p).responder = p.responder :=
  (updateHead_leaves p f).2.2.2.2.2.2.2.2.1
@[simp] theorem updateHead_loader (f : RowRecord → RowRecord) : (updateHead f p).loader = p.loader :=
  (updateHead_leaves p f).2.2.2.2.2.2.2.2.2.1
@[simp] theorem updateHead_pins (f : RowRecord → RowRecord) : (updateHead f p).pins = p.pins :=
  (updateHead_leaves p f).2.2.2.2.2.2.2.2.2.2

end Sys2Proof.Machine
end

