-- ==== Sys2Proof/Laws/MergerFrames.lean ====
section
/-! SUPPORT. What the verdict merger leaves unchanged: one lemma per operation, the conjunction of the blocks it does not touch, and its parts for simp. -/

namespace Sys2Proof.Machine

variable (p : Part)

theorem applyVerdict_leaves (role : Role) (v : RowVerdict) :
    (applyVerdict role v p).port = p.port ∧
      (applyVerdict role v p).sampling = p.sampling ∧
      (applyVerdict role v p).regulator = p.regulator ∧
      (applyVerdict role v p).sequencer = p.sequencer ∧
      (applyVerdict role v p).dose = p.dose ∧
      (applyVerdict role v p).control = p.control ∧
      (applyVerdict role v p).log = p.log ∧
      (applyVerdict role v p).responder = p.responder ∧
      (applyVerdict role v p).loader = p.loader ∧
      (applyVerdict role v p).pins = p.pins := by
  simp only [applyVerdict]
  split <;> simp

@[simp] theorem applyVerdict_port (role : Role) (v : RowVerdict) : (applyVerdict role v p).port = p.port :=
  (applyVerdict_leaves p role v).1
@[simp] theorem applyVerdict_sampling (role : Role) (v : RowVerdict) : (applyVerdict role v p).sampling = p.sampling :=
  (applyVerdict_leaves p role v).2.1
@[simp] theorem applyVerdict_regulator (role : Role) (v : RowVerdict) : (applyVerdict role v p).regulator = p.regulator :=
  (applyVerdict_leaves p role v).2.2.1
@[simp] theorem applyVerdict_sequencer (role : Role) (v : RowVerdict) : (applyVerdict role v p).sequencer = p.sequencer :=
  (applyVerdict_leaves p role v).2.2.2.1
@[simp] theorem applyVerdict_dose (role : Role) (v : RowVerdict) : (applyVerdict role v p).dose = p.dose :=
  (applyVerdict_leaves p role v).2.2.2.2.1
@[simp] theorem applyVerdict_control (role : Role) (v : RowVerdict) : (applyVerdict role v p).control = p.control :=
  (applyVerdict_leaves p role v).2.2.2.2.2.1
@[simp] theorem applyVerdict_log (role : Role) (v : RowVerdict) : (applyVerdict role v p).log = p.log :=
  (applyVerdict_leaves p role v).2.2.2.2.2.2.1
@[simp] theorem applyVerdict_responder (role : Role) (v : RowVerdict) : (applyVerdict role v p).responder = p.responder :=
  (applyVerdict_leaves p role v).2.2.2.2.2.2.2.1
@[simp] theorem applyVerdict_loader (role : Role) (v : RowVerdict) : (applyVerdict role v p).loader = p.loader :=
  (applyVerdict_leaves p role v).2.2.2.2.2.2.2.2.1
@[simp] theorem applyVerdict_pins (role : Role) (v : RowVerdict) : (applyVerdict role v p).pins = p.pins :=
  (applyVerdict_leaves p role v).2.2.2.2.2.2.2.2.2

theorem applyReport_leaves (x : ReceivedReport) :
    (applyReport x p).port = p.port ∧
      (applyReport x p).sampling = p.sampling ∧
      (applyReport x p).regulator = p.regulator ∧
      (applyReport x p).sequencer = p.sequencer ∧
      (applyReport x p).dose = p.dose ∧
      (applyReport x p).control = p.control ∧
      (applyReport x p).log = p.log ∧
      (applyReport x p).responder = p.responder ∧
      (applyReport x p).loader = p.loader ∧
      (applyReport x p).pins = p.pins := by
  simp only [applyReport]
  split <;> simp

@[simp] theorem applyReport_port (x : ReceivedReport) : (applyReport x p).port = p.port :=
  (applyReport_leaves p x).1
@[simp] theorem applyReport_sampling (x : ReceivedReport) : (applyReport x p).sampling = p.sampling :=
  (applyReport_leaves p x).2.1
@[simp] theorem applyReport_regulator (x : ReceivedReport) : (applyReport x p).regulator = p.regulator :=
  (applyReport_leaves p x).2.2.1
@[simp] theorem applyReport_sequencer (x : ReceivedReport) : (applyReport x p).sequencer = p.sequencer :=
  (applyReport_leaves p x).2.2.2.1
@[simp] theorem applyReport_dose (x : ReceivedReport) : (applyReport x p).dose = p.dose :=
  (applyReport_leaves p x).2.2.2.2.1
@[simp] theorem applyReport_control (x : ReceivedReport) : (applyReport x p).control = p.control :=
  (applyReport_leaves p x).2.2.2.2.2.1
@[simp] theorem applyReport_log (x : ReceivedReport) : (applyReport x p).log = p.log :=
  (applyReport_leaves p x).2.2.2.2.2.2.1
@[simp] theorem applyReport_responder (x : ReceivedReport) : (applyReport x p).responder = p.responder :=
  (applyReport_leaves p x).2.2.2.2.2.2.2.1
@[simp] theorem applyReport_loader (x : ReceivedReport) : (applyReport x p).loader = p.loader :=
  (applyReport_leaves p x).2.2.2.2.2.2.2.2.1
@[simp] theorem applyReport_pins (x : ReceivedReport) : (applyReport x p).pins = p.pins :=
  (applyReport_leaves p x).2.2.2.2.2.2.2.2.2

theorem applyVoid_leaves (v : ReceivedVoid) :
    (applyVoid v p).port = p.port ∧
      (applyVoid v p).sampling = p.sampling ∧
      (applyVoid v p).regulator = p.regulator ∧
      (applyVoid v p).sequencer = p.sequencer ∧
      (applyVoid v p).dose = p.dose ∧
      (applyVoid v p).control = p.control ∧
      (applyVoid v p).log = p.log ∧
      (applyVoid v p).responder = p.responder ∧
      (applyVoid v p).loader = p.loader ∧
      (applyVoid v p).pins = p.pins := by
  simp only [applyVoid]
  repeat' split
  all_goals simp

@[simp] theorem applyVoid_port (v : ReceivedVoid) : (applyVoid v p).port = p.port :=
  (applyVoid_leaves p v).1
@[simp] theorem applyVoid_sampling (v : ReceivedVoid) : (applyVoid v p).sampling = p.sampling :=
  (applyVoid_leaves p v).2.1
@[simp] theorem applyVoid_regulator (v : ReceivedVoid) : (applyVoid v p).regulator = p.regulator :=
  (applyVoid_leaves p v).2.2.1
@[simp] theorem applyVoid_sequencer (v : ReceivedVoid) : (applyVoid v p).sequencer = p.sequencer :=
  (applyVoid_leaves p v).2.2.2.1
@[simp] theorem applyVoid_dose (v : ReceivedVoid) : (applyVoid v p).dose = p.dose :=
  (applyVoid_leaves p v).2.2.2.2.1
@[simp] theorem applyVoid_control (v : ReceivedVoid) : (applyVoid v p).control = p.control :=
  (applyVoid_leaves p v).2.2.2.2.2.1
@[simp] theorem applyVoid_log (v : ReceivedVoid) : (applyVoid v p).log = p.log :=
  (applyVoid_leaves p v).2.2.2.2.2.2.1
@[simp] theorem applyVoid_responder (v : ReceivedVoid) : (applyVoid v p).responder = p.responder :=
  (applyVoid_leaves p v).2.2.2.2.2.2.2.1
@[simp] theorem applyVoid_loader (v : ReceivedVoid) : (applyVoid v p).loader = p.loader :=
  (applyVoid_leaves p v).2.2.2.2.2.2.2.2.1
@[simp] theorem applyVoid_pins (v : ReceivedVoid) : (applyVoid v p).pins = p.pins :=
  (applyVoid_leaves p v).2.2.2.2.2.2.2.2.2

theorem takeRowVerdict_leaves (h : Header) (payload : List Byte) :
    (takeRowVerdict h payload p).port = p.port ∧
      (takeRowVerdict h payload p).sampling = p.sampling ∧
      (takeRowVerdict h payload p).regulator = p.regulator ∧
      (takeRowVerdict h payload p).sequencer = p.sequencer ∧
      (takeRowVerdict h payload p).dose = p.dose ∧
      (takeRowVerdict h payload p).control = p.control ∧
      (takeRowVerdict h payload p).log = p.log ∧
      (takeRowVerdict h payload p).responder = p.responder ∧
      (takeRowVerdict h payload p).loader = p.loader ∧
      (takeRowVerdict h payload p).pins = p.pins := by
  simp only [takeRowVerdict, fileStatement]
  repeat' split
  all_goals simp

@[simp] theorem takeRowVerdict_port (h : Header) (payload : List Byte) : (takeRowVerdict h payload p).port = p.port :=
  (takeRowVerdict_leaves p h payload).1
@[simp] theorem takeRowVerdict_sampling (h : Header) (payload : List Byte) : (takeRowVerdict h payload p).sampling = p.sampling :=
  (takeRowVerdict_leaves p h payload).2.1
@[simp] theorem takeRowVerdict_regulator (h : Header) (payload : List Byte) : (takeRowVerdict h payload p).regulator = p.regulator :=
  (takeRowVerdict_leaves p h payload).2.2.1
@[simp] theorem takeRowVerdict_sequencer (h : Header) (payload : List Byte) : (takeRowVerdict h payload p).sequencer = p.sequencer :=
  (takeRowVerdict_leaves p h payload).2.2.2.1
@[simp] theorem takeRowVerdict_dose (h : Header) (payload : List Byte) : (takeRowVerdict h payload p).dose = p.dose :=
  (takeRowVerdict_leaves p h payload).2.2.2.2.1
@[simp] theorem takeRowVerdict_control (h : Header) (payload : List Byte) : (takeRowVerdict h payload p).control = p.control :=
  (takeRowVerdict_leaves p h payload).2.2.2.2.2.1
@[simp] theorem takeRowVerdict_log (h : Header) (payload : List Byte) : (takeRowVerdict h payload p).log = p.log :=
  (takeRowVerdict_leaves p h payload).2.2.2.2.2.2.1
@[simp] theorem takeRowVerdict_responder (h : Header) (payload : List Byte) : (takeRowVerdict h payload p).responder = p.responder :=
  (takeRowVerdict_leaves p h payload).2.2.2.2.2.2.2.1
@[simp] theorem takeRowVerdict_loader (h : Header) (payload : List Byte) : (takeRowVerdict h payload p).loader = p.loader :=
  (takeRowVerdict_leaves p h payload).2.2.2.2.2.2.2.2.1
@[simp] theorem takeRowVerdict_pins (h : Header) (payload : List Byte) : (takeRowVerdict h payload p).pins = p.pins :=
  (takeRowVerdict_leaves p h payload).2.2.2.2.2.2.2.2.2

theorem takeSealReport_leaves (h : Header) (payload : List Byte) :
    (takeSealReport h payload p).port = p.port ∧
      (takeSealReport h payload p).sampling = p.sampling ∧
      (takeSealReport h payload p).regulator = p.regulator ∧
      (takeSealReport h payload p).sequencer = p.sequencer ∧
      (takeSealReport h payload p).dose = p.dose ∧
      (takeSealReport h payload p).log = p.log ∧
      (takeSealReport h payload p).responder = p.responder ∧
      (takeSealReport h payload p).loader = p.loader ∧
      (takeSealReport h payload p).pins = p.pins ∧
      (takeSealReport h payload p).control.mode = p.control.mode ∧
      (takeSealReport h payload p).control.lineStop = p.control.lineStop ∧
      (takeSealReport h payload p).control.operatorHold = p.control.operatorHold ∧
      (takeSealReport h payload p).control.fault = p.control.fault := by
  simp only [takeSealReport, byStage, fileStatement]
  repeat' split
  all_goals simp

@[simp] theorem takeSealReport_port (h : Header) (payload : List Byte) : (takeSealReport h payload p).port = p.port :=
  (takeSealReport_leaves p h payload).1
@[simp] theorem takeSealReport_sampling (h : Header) (payload : List Byte) : (takeSealReport h payload p).sampling = p.sampling :=
  (takeSealReport_leaves p h payload).2.1
@[simp] theorem takeSealReport_regulator (h : Header) (payload : List Byte) : (takeSealReport h payload p).regulator = p.regulator :=
  (takeSealReport_leaves p h payload).2.2.1
@[simp] theorem takeSealReport_sequencer (h : Header) (payload : List Byte) : (takeSealReport h payload p).sequencer = p.sequencer :=
  (takeSealReport_leaves p h payload).2.2.2.1
@[simp] theorem takeSealReport_dose (h : Header) (payload : List Byte) : (takeSealReport h payload p).dose = p.dose :=
  (takeSealReport_leaves p h payload).2.2.2.2.1
@[simp] theorem takeSealReport_log (h : Header) (payload : List Byte) : (takeSealReport h payload p).log = p.log :=
  (takeSealReport_leaves p h payload).2.2.2.2.2.1
@[simp] theorem takeSealReport_responder (h : Header) (payload : List Byte) : (takeSealReport h payload p).responder = p.responder :=
  (takeSealReport_leaves p h payload).2.2.2.2.2.2.1
@[simp] theorem takeSealReport_loader (h : Header) (payload : List Byte) : (takeSealReport h payload p).loader = p.loader :=
  (takeSealReport_leaves p h payload).2.2.2.2.2.2.2.1
@[simp] theorem takeSealReport_pins (h : Header) (payload : List Byte) : (takeSealReport h payload p).pins = p.pins :=
  (takeSealReport_leaves p h payload).2.2.2.2.2.2.2.2.1
@[simp] theorem takeSealReport_mode (h : Header) (payload : List Byte) : (takeSealReport h payload p).control.mode = p.control.mode :=
  (takeSealReport_leaves p h payload).2.2.2.2.2.2.2.2.2.1
@[simp] theorem takeSealReport_lineStop (h : Header) (payload : List Byte) : (takeSealReport h payload p).control.lineStop = p.control.lineStop :=
  (takeSealReport_leaves p h payload).2.2.2.2.2.2.2.2.2.2.1
@[simp] theorem takeSealReport_operatorHold (h : Header) (payload : List Byte) : (takeSealReport h payload p).control.operatorHold = p.control.operatorHold :=
  (takeSealReport_leaves p h payload).2.2.2.2.2.2.2.2.2.2.2.1
@[simp] theorem takeSealReport_fault (h : Header) (payload : List Byte) : (takeSealReport h payload p).control.fault = p.control.fault :=
  (takeSealReport_leaves p h payload).2.2.2.2.2.2.2.2.2.2.2.2

theorem takeVoidNotice_leaves (h : Header) (payload : List Byte) :
    (takeVoidNotice h payload p).port = p.port ∧
      (takeVoidNotice h payload p).sampling = p.sampling ∧
      (takeVoidNotice h payload p).regulator = p.regulator ∧
      (takeVoidNotice h payload p).sequencer = p.sequencer ∧
      (takeVoidNotice h payload p).dose = p.dose ∧
      (takeVoidNotice h payload p).log = p.log ∧
      (takeVoidNotice h payload p).responder = p.responder ∧
      (takeVoidNotice h payload p).loader = p.loader ∧
      (takeVoidNotice h payload p).pins = p.pins ∧
      (takeVoidNotice h payload p).control.mode = p.control.mode ∧
      (takeVoidNotice h payload p).control.lineStop = p.control.lineStop ∧
      (takeVoidNotice h payload p).control.operatorHold = p.control.operatorHold ∧
      (takeVoidNotice h payload p).control.fault = p.control.fault := by
  simp only [takeVoidNotice, byStage]
  repeat' split
  all_goals simp

@[simp] theorem takeVoidNotice_port (h : Header) (payload : List Byte) : (takeVoidNotice h payload p).port = p.port :=
  (takeVoidNotice_leaves p h payload).1
@[simp] theorem takeVoidNotice_sampling (h : Header) (payload : List Byte) : (takeVoidNotice h payload p).sampling = p.sampling :=
  (takeVoidNotice_leaves p h payload).2.1
@[simp] theorem takeVoidNotice_regulator (h : Header) (payload : List Byte) : (takeVoidNotice h payload p).regulator = p.regulator :=
  (takeVoidNotice_leaves p h payload).2.2.1
@[simp] theorem takeVoidNotice_sequencer (h : Header) (payload : List Byte) : (takeVoidNotice h payload p).sequencer = p.sequencer :=
  (takeVoidNotice_leaves p h payload).2.2.2.1
@[simp] theorem takeVoidNotice_dose (h : Header) (payload : List Byte) : (takeVoidNotice h payload p).dose = p.dose :=
  (takeVoidNotice_leaves p h payload).2.2.2.2.1
@[simp] theorem takeVoidNotice_log (h : Header) (payload : List Byte) : (takeVoidNotice h payload p).log = p.log :=
  (takeVoidNotice_leaves p h payload).2.2.2.2.2.1
@[simp] theorem takeVoidNotice_responder (h : Header) (payload : List Byte) : (takeVoidNotice h payload p).responder = p.responder :=
  (takeVoidNotice_leaves p h payload).2.2.2.2.2.2.1
@[simp] theorem takeVoidNotice_loader (h : Header) (payload : List Byte) : (takeVoidNotice h payload p).loader = p.loader :=
  (takeVoidNotice_leaves p h payload).2.2.2.2.2.2.2.1
@[simp] theorem takeVoidNotice_pins (h : Header) (payload : List Byte) : (takeVoidNotice h payload p).pins = p.pins :=
  (takeVoidNotice_leaves p h payload).2.2.2.2.2.2.2.2.1
@[simp] theorem takeVoidNotice_mode (h : Header) (payload : List Byte) : (takeVoidNotice h payload p).control.mode = p.control.mode :=
  (takeVoidNotice_leaves p h payload).2.2.2.2.2.2.2.2.2.1
@[simp] theorem takeVoidNotice_lineStop (h : Header) (payload : List Byte) : (takeVoidNotice h payload p).control.lineStop = p.control.lineStop :=
  (takeVoidNotice_leaves p h payload).2.2.2.2.2.2.2.2.2.2.1
@[simp] theorem takeVoidNotice_operatorHold (h : Header) (payload : List Byte) : (takeVoidNotice h payload p).control.operatorHold = p.control.operatorHold :=
  (takeVoidNotice_leaves p h payload).2.2.2.2.2.2.2.2.2.2.2.1
@[simp] theorem takeVoidNotice_fault (h : Header) (payload : List Byte) : (takeVoidNotice h payload p).control.fault = p.control.fault :=
  (takeVoidNotice_leaves p h payload).2.2.2.2.2.2.2.2.2.2.2.2

theorem freezeHead_leaves :
    (freezeHead p).port = p.port ∧
      (freezeHead p).sampling = p.sampling ∧
      (freezeHead p).regulator = p.regulator ∧
      (freezeHead p).sequencer = p.sequencer ∧
      (freezeHead p).dose = p.dose ∧
      (freezeHead p).control = p.control ∧
      (freezeHead p).monitor = p.monitor ∧
      (freezeHead p).log = p.log ∧
      (freezeHead p).responder = p.responder ∧
      (freezeHead p).loader = p.loader ∧
      (freezeHead p).pins = p.pins := by
  simp [freezeHead]

@[simp] theorem freezeHead_port : (freezeHead p).port = p.port :=
  (freezeHead_leaves p).1
@[simp] theorem freezeHead_sampling : (freezeHead p).sampling = p.sampling :=
  (freezeHead_leaves p).2.1
@[simp] theorem freezeHead_regulator : (freezeHead p).regulator = p.regulator :=
  (freezeHead_leaves p).2.2.1
@[simp] theorem freezeHead_sequencer : (freezeHead p).sequencer = p.sequencer :=
  (freezeHead_leaves p).2.2.2.1
@[simp] theorem freezeHead_dose : (freezeHead p).dose = p.dose :=
  (freezeHead_leaves p).2.2.2.2.1
@[simp] theorem freezeHead_control : (freezeHead p).control = p.control :=
  (freezeHead_leaves p).2.2.2.2.2.1
@[simp] theorem freezeHead_monitor : (freezeHead p).monitor = p.monitor :=
  (freezeHead_leaves p).2.2.2.2.2.2.1
@[simp] theorem freezeHead_log : (freezeHead p).log = p.log :=
  (freezeHead_leaves p).2.2.2.2.2.2.2.1
@[simp] theorem freezeHead_responder : (freezeHead p).responder = p.responder :=
  (freezeHead_leaves p).2.2.2.2.2.2.2.2.1
@[simp] theorem freezeHead_loader : (freezeHead p).loader = p.loader :=
  (freezeHead_leaves p).2.2.2.2.2.2.2.2.2.1
@[simp] theorem freezeHead_pins : (freezeHead p).pins = p.pins :=
  (freezeHead_leaves p).2.2.2.2.2.2.2.2.2.2

end Sys2Proof.Machine
end

