-- ==== Sys2Proof/Laws/ConclusionFrames.lean ====
section
/-! SUPPORT. What a conclusion and the index tracker leave unchanged: one lemma per operation, the conjunction of the blocks it does not touch, and its parts for simp. -/

namespace Sys2Proof.Machine

variable (p : Part)

theorem logCycle_leaves (tag : Tag) (dry aborted forced : Bool) :
    (logCycle tag dry aborted forced p).port = p.port ∧
      (logCycle tag dry aborted forced p).sampling = p.sampling ∧
      (logCycle tag dry aborted forced p).regulator = p.regulator ∧
      (logCycle tag dry aborted forced p).sequencer = p.sequencer ∧
      (logCycle tag dry aborted forced p).dose = p.dose ∧
      (logCycle tag dry aborted forced p).monitor = p.monitor ∧
      (logCycle tag dry aborted forced p).responder = p.responder ∧
      (logCycle tag dry aborted forced p).loader = p.loader ∧
      (logCycle tag dry aborted forced p).pins = p.pins ∧
      (logCycle tag dry aborted forced p).control.mode = p.control.mode ∧
      (logCycle tag dry aborted forced p).control.lineStop = p.control.lineStop ∧
      (logCycle tag dry aborted forced p).control.operatorHold = p.control.operatorHold ∧
      (logCycle tag dry aborted forced p).control.fault = p.control.fault := by
  simp [logCycle]

@[simp] theorem logCycle_port (tag : Tag) (dry aborted forced : Bool) : (logCycle tag dry aborted forced p).port = p.port :=
  (logCycle_leaves p tag dry aborted forced).1
@[simp] theorem logCycle_sampling (tag : Tag) (dry aborted forced : Bool) : (logCycle tag dry aborted forced p).sampling = p.sampling :=
  (logCycle_leaves p tag dry aborted forced).2.1
@[simp] theorem logCycle_regulator (tag : Tag) (dry aborted forced : Bool) : (logCycle tag dry aborted forced p).regulator = p.regulator :=
  (logCycle_leaves p tag dry aborted forced).2.2.1
@[simp] theorem logCycle_sequencer (tag : Tag) (dry aborted forced : Bool) : (logCycle tag dry aborted forced p).sequencer = p.sequencer :=
  (logCycle_leaves p tag dry aborted forced).2.2.2.1
@[simp] theorem logCycle_dose (tag : Tag) (dry aborted forced : Bool) : (logCycle tag dry aborted forced p).dose = p.dose :=
  (logCycle_leaves p tag dry aborted forced).2.2.2.2.1
@[simp] theorem logCycle_monitor (tag : Tag) (dry aborted forced : Bool) : (logCycle tag dry aborted forced p).monitor = p.monitor :=
  (logCycle_leaves p tag dry aborted forced).2.2.2.2.2.1
@[simp] theorem logCycle_responder (tag : Tag) (dry aborted forced : Bool) : (logCycle tag dry aborted forced p).responder = p.responder :=
  (logCycle_leaves p tag dry aborted forced).2.2.2.2.2.2.1
@[simp] theorem logCycle_loader (tag : Tag) (dry aborted forced : Bool) : (logCycle tag dry aborted forced p).loader = p.loader :=
  (logCycle_leaves p tag dry aborted forced).2.2.2.2.2.2.2.1
@[simp] theorem logCycle_pins (tag : Tag) (dry aborted forced : Bool) : (logCycle tag dry aborted forced p).pins = p.pins :=
  (logCycle_leaves p tag dry aborted forced).2.2.2.2.2.2.2.2.1
@[simp] theorem logCycle_mode (tag : Tag) (dry aborted forced : Bool) : (logCycle tag dry aborted forced p).control.mode = p.control.mode :=
  (logCycle_leaves p tag dry aborted forced).2.2.2.2.2.2.2.2.2.1
@[simp] theorem logCycle_lineStop (tag : Tag) (dry aborted forced : Bool) : (logCycle tag dry aborted forced p).control.lineStop = p.control.lineStop :=
  (logCycle_leaves p tag dry aborted forced).2.2.2.2.2.2.2.2.2.2.1
@[simp] theorem logCycle_operatorHold (tag : Tag) (dry aborted forced : Bool) : (logCycle tag dry aborted forced p).control.operatorHold = p.control.operatorHold :=
  (logCycle_leaves p tag dry aborted forced).2.2.2.2.2.2.2.2.2.2.2.1
@[simp] theorem logCycle_fault (tag : Tag) (dry aborted forced : Bool) : (logCycle tag dry aborted forced p).control.fault = p.control.fault :=
  (logCycle_leaves p tag dry aborted forced).2.2.2.2.2.2.2.2.2.2.2.2

theorem countRow_leaves (judged : Bool) (lanes : List LaneEntry) :
    (countRow judged lanes p).port = p.port ∧
      (countRow judged lanes p).tracker = p.tracker ∧
      (countRow judged lanes p).sampling = p.sampling ∧
      (countRow judged lanes p).regulator = p.regulator ∧
      (countRow judged lanes p).sequencer = p.sequencer ∧
      (countRow judged lanes p).dose = p.dose ∧
      (countRow judged lanes p).control = p.control ∧
      (countRow judged lanes p).log = p.log ∧
      (countRow judged lanes p).responder = p.responder ∧
      (countRow judged lanes p).loader = p.loader ∧
      (countRow judged lanes p).pins = p.pins := by
  simp [countRow]

@[simp] theorem countRow_port (judged : Bool) (lanes : List LaneEntry) : (countRow judged lanes p).port = p.port :=
  (countRow_leaves p judged lanes).1
@[simp] theorem countRow_tracker (judged : Bool) (lanes : List LaneEntry) : (countRow judged lanes p).tracker = p.tracker :=
  (countRow_leaves p judged lanes).2.1
@[simp] theorem countRow_sampling (judged : Bool) (lanes : List LaneEntry) : (countRow judged lanes p).sampling = p.sampling :=
  (countRow_leaves p judged lanes).2.2.1
@[simp] theorem countRow_regulator (judged : Bool) (lanes : List LaneEntry) : (countRow judged lanes p).regulator = p.regulator :=
  (countRow_leaves p judged lanes).2.2.2.1
@[simp] theorem countRow_sequencer (judged : Bool) (lanes : List LaneEntry) : (countRow judged lanes p).sequencer = p.sequencer :=
  (countRow_leaves p judged lanes).2.2.2.2.1
@[simp] theorem countRow_dose (judged : Bool) (lanes : List LaneEntry) : (countRow judged lanes p).dose = p.dose :=
  (countRow_leaves p judged lanes).2.2.2.2.2.1
@[simp] theorem countRow_control (judged : Bool) (lanes : List LaneEntry) : (countRow judged lanes p).control = p.control :=
  (countRow_leaves p judged lanes).2.2.2.2.2.2.1
@[simp] theorem countRow_log (judged : Bool) (lanes : List LaneEntry) : (countRow judged lanes p).log = p.log :=
  (countRow_leaves p judged lanes).2.2.2.2.2.2.2.1
@[simp] theorem countRow_responder (judged : Bool) (lanes : List LaneEntry) : (countRow judged lanes p).responder = p.responder :=
  (countRow_leaves p judged lanes).2.2.2.2.2.2.2.2.1
@[simp] theorem countRow_loader (judged : Bool) (lanes : List LaneEntry) : (countRow judged lanes p).loader = p.loader :=
  (countRow_leaves p judged lanes).2.2.2.2.2.2.2.2.2.1
@[simp] theorem countRow_pins (judged : Bool) (lanes : List LaneEntry) : (countRow judged lanes p).pins = p.pins :=
  (countRow_leaves p judged lanes).2.2.2.2.2.2.2.2.2.2

theorem countUnder_leaves (lanes : List LaneEntry) :
    (countUnder lanes p).port = p.port ∧
      (countUnder lanes p).tracker = p.tracker ∧
      (countUnder lanes p).sampling = p.sampling ∧
      (countUnder lanes p).regulator = p.regulator ∧
      (countUnder lanes p).sequencer = p.sequencer ∧
      (countUnder lanes p).monitor = p.monitor ∧
      (countUnder lanes p).log = p.log ∧
      (countUnder lanes p).responder = p.responder ∧
      (countUnder lanes p).loader = p.loader ∧
      (countUnder lanes p).pins = p.pins ∧
      (countUnder lanes p).control.mode = p.control.mode ∧
      (countUnder lanes p).control.lineStop = p.control.lineStop ∧
      (countUnder lanes p).control.operatorHold = p.control.operatorHold ∧
      (countUnder lanes p).control.fault = p.control.fault := by
  simp only [countUnder]
  split <;> simp

@[simp] theorem countUnder_port (lanes : List LaneEntry) : (countUnder lanes p).port = p.port :=
  (countUnder_leaves p lanes).1
@[simp] theorem countUnder_tracker (lanes : List LaneEntry) : (countUnder lanes p).tracker = p.tracker :=
  (countUnder_leaves p lanes).2.1
@[simp] theorem countUnder_sampling (lanes : List LaneEntry) : (countUnder lanes p).sampling = p.sampling :=
  (countUnder_leaves p lanes).2.2.1
@[simp] theorem countUnder_regulator (lanes : List LaneEntry) : (countUnder lanes p).regulator = p.regulator :=
  (countUnder_leaves p lanes).2.2.2.1
@[simp] theorem countUnder_sequencer (lanes : List LaneEntry) : (countUnder lanes p).sequencer = p.sequencer :=
  (countUnder_leaves p lanes).2.2.2.2.1
@[simp] theorem countUnder_monitor (lanes : List LaneEntry) : (countUnder lanes p).monitor = p.monitor :=
  (countUnder_leaves p lanes).2.2.2.2.2.1
@[simp] theorem countUnder_log (lanes : List LaneEntry) : (countUnder lanes p).log = p.log :=
  (countUnder_leaves p lanes).2.2.2.2.2.2.1
@[simp] theorem countUnder_responder (lanes : List LaneEntry) : (countUnder lanes p).responder = p.responder :=
  (countUnder_leaves p lanes).2.2.2.2.2.2.2.1
@[simp] theorem countUnder_loader (lanes : List LaneEntry) : (countUnder lanes p).loader = p.loader :=
  (countUnder_leaves p lanes).2.2.2.2.2.2.2.2.1
@[simp] theorem countUnder_pins (lanes : List LaneEntry) : (countUnder lanes p).pins = p.pins :=
  (countUnder_leaves p lanes).2.2.2.2.2.2.2.2.2.1
@[simp] theorem countUnder_mode (lanes : List LaneEntry) : (countUnder lanes p).control.mode = p.control.mode :=
  (countUnder_leaves p lanes).2.2.2.2.2.2.2.2.2.2.1
@[simp] theorem countUnder_lineStop (lanes : List LaneEntry) : (countUnder lanes p).control.lineStop = p.control.lineStop :=
  (countUnder_leaves p lanes).2.2.2.2.2.2.2.2.2.2.2.1
@[simp] theorem countUnder_operatorHold (lanes : List LaneEntry) : (countUnder lanes p).control.operatorHold = p.control.operatorHold :=
  (countUnder_leaves p lanes).2.2.2.2.2.2.2.2.2.2.2.2.1
@[simp] theorem countUnder_fault (lanes : List LaneEntry) : (countUnder lanes p).control.fault = p.control.fault :=
  (countUnder_leaves p lanes).2.2.2.2.2.2.2.2.2.2.2.2.2

theorem concludeWith_leaves (pt : ConclusionPoint) (r : RowRecord) :
    (concludeWith pt r p).sampling = p.sampling ∧
      (concludeWith pt r p).regulator = p.regulator ∧
      (concludeWith pt r p).sequencer = p.sequencer ∧
      (concludeWith pt r p).responder = p.responder ∧
      (concludeWith pt r p).loader = p.loader ∧
      (concludeWith pt r p).pins = p.pins ∧
      (concludeWith pt r p).control.mode = p.control.mode ∧
      (concludeWith pt r p).control.lineStop = p.control.lineStop ∧
      (concludeWith pt r p).control.operatorHold = p.control.operatorHold ∧
      (concludeWith pt r p).control.fault = p.control.fault := by
  simp only [concludeWith]
  split <;> simp

@[simp] theorem concludeWith_sampling (pt : ConclusionPoint) (r : RowRecord) : (concludeWith pt r p).sampling = p.sampling :=
  (concludeWith_leaves p pt r).1
@[simp] theorem concludeWith_regulator (pt : ConclusionPoint) (r : RowRecord) : (concludeWith pt r p).regulator = p.regulator :=
  (concludeWith_leaves p pt r).2.1
@[simp] theorem concludeWith_sequencer (pt : ConclusionPoint) (r : RowRecord) : (concludeWith pt r p).sequencer = p.sequencer :=
  (concludeWith_leaves p pt r).2.2.1
@[simp] theorem concludeWith_responder (pt : ConclusionPoint) (r : RowRecord) : (concludeWith pt r p).responder = p.responder :=
  (concludeWith_leaves p pt r).2.2.2.1
@[simp] theorem concludeWith_loader (pt : ConclusionPoint) (r : RowRecord) : (concludeWith pt r p).loader = p.loader :=
  (concludeWith_leaves p pt r).2.2.2.2.1
@[simp] theorem concludeWith_pins (pt : ConclusionPoint) (r : RowRecord) : (concludeWith pt r p).pins = p.pins :=
  (concludeWith_leaves p pt r).2.2.2.2.2.1
@[simp] theorem concludeWith_mode (pt : ConclusionPoint) (r : RowRecord) : (concludeWith pt r p).control.mode = p.control.mode :=
  (concludeWith_leaves p pt r).2.2.2.2.2.2.1
@[simp] theorem concludeWith_lineStop (pt : ConclusionPoint) (r : RowRecord) : (concludeWith pt r p).control.lineStop = p.control.lineStop :=
  (concludeWith_leaves p pt r).2.2.2.2.2.2.2.1
@[simp] theorem concludeWith_operatorHold (pt : ConclusionPoint) (r : RowRecord) : (concludeWith pt r p).control.operatorHold = p.control.operatorHold :=
  (concludeWith_leaves p pt r).2.2.2.2.2.2.2.2.1
@[simp] theorem concludeWith_fault (pt : ConclusionPoint) (r : RowRecord) : (concludeWith pt r p).control.fault = p.control.fault :=
  (concludeWith_leaves p pt r).2.2.2.2.2.2.2.2.2

theorem concludeHead_leaves (pt : ConclusionPoint) :
    (concludeHead pt p).sampling = p.sampling ∧
      (concludeHead pt p).regulator = p.regulator ∧
      (concludeHead pt p).sequencer = p.sequencer ∧
      (concludeHead pt p).responder = p.responder ∧
      (concludeHead pt p).loader = p.loader ∧
      (concludeHead pt p).pins = p.pins ∧
      (concludeHead pt p).control.mode = p.control.mode ∧
      (concludeHead pt p).control.lineStop = p.control.lineStop ∧
      (concludeHead pt p).control.operatorHold = p.control.operatorHold ∧
      (concludeHead pt p).control.fault = p.control.fault := by
  simp only [concludeHead]
  repeat' split
  all_goals simp

@[simp] theorem concludeHead_sampling (pt : ConclusionPoint) : (concludeHead pt p).sampling = p.sampling :=
  (concludeHead_leaves p pt).1
@[simp] theorem concludeHead_regulator (pt : ConclusionPoint) : (concludeHead pt p).regulator = p.regulator :=
  (concludeHead_leaves p pt).2.1
@[simp] theorem concludeHead_sequencer (pt : ConclusionPoint) : (concludeHead pt p).sequencer = p.sequencer :=
  (concludeHead_leaves p pt).2.2.1
@[simp] theorem concludeHead_responder (pt : ConclusionPoint) : (concludeHead pt p).responder = p.responder :=
  (concludeHead_leaves p pt).2.2.2.1
@[simp] theorem concludeHead_loader (pt : ConclusionPoint) : (concludeHead pt p).loader = p.loader :=
  (concludeHead_leaves p pt).2.2.2.2.1
@[simp] theorem concludeHead_pins (pt : ConclusionPoint) : (concludeHead pt p).pins = p.pins :=
  (concludeHead_leaves p pt).2.2.2.2.2.1
@[simp] theorem concludeHead_mode (pt : ConclusionPoint) : (concludeHead pt p).control.mode = p.control.mode :=
  (concludeHead_leaves p pt).2.2.2.2.2.2.1
@[simp] theorem concludeHead_lineStop (pt : ConclusionPoint) : (concludeHead pt p).control.lineStop = p.control.lineStop :=
  (concludeHead_leaves p pt).2.2.2.2.2.2.2.1
@[simp] theorem concludeHead_operatorHold (pt : ConclusionPoint) : (concludeHead pt p).control.operatorHold = p.control.operatorHold :=
  (concludeHead_leaves p pt).2.2.2.2.2.2.2.2.1
@[simp] theorem concludeHead_fault (pt : ConclusionPoint) : (concludeHead pt p).control.fault = p.control.fault :=
  (concludeHead_leaves p pt).2.2.2.2.2.2.2.2.2

theorem advanceQueue_leaves (h : Tag) :
    (advanceQueue h p).port = p.port ∧
      (advanceQueue h p).sampling = p.sampling ∧
      (advanceQueue h p).regulator = p.regulator ∧
      (advanceQueue h p).sequencer = p.sequencer ∧
      (advanceQueue h p).dose = p.dose ∧
      (advanceQueue h p).control = p.control ∧
      (advanceQueue h p).monitor = p.monitor ∧
      (advanceQueue h p).log = p.log ∧
      (advanceQueue h p).responder = p.responder ∧
      (advanceQueue h p).loader = p.loader ∧
      (advanceQueue h p).pins = p.pins := by
  simp [advanceQueue]

@[simp] theorem advanceQueue_port (h : Tag) : (advanceQueue h p).port = p.port :=
  (advanceQueue_leaves p h).1
@[simp] theorem advanceQueue_sampling (h : Tag) : (advanceQueue h p).sampling = p.sampling :=
  (advanceQueue_leaves p h).2.1
@[simp] theorem advanceQueue_regulator (h : Tag) : (advanceQueue h p).regulator = p.regulator :=
  (advanceQueue_leaves p h).2.2.1
@[simp] theorem advanceQueue_sequencer (h : Tag) : (advanceQueue h p).sequencer = p.sequencer :=
  (advanceQueue_leaves p h).2.2.2.1
@[simp] theorem advanceQueue_dose (h : Tag) : (advanceQueue h p).dose = p.dose :=
  (advanceQueue_leaves p h).2.2.2.2.1
@[simp] theorem advanceQueue_control (h : Tag) : (advanceQueue h p).control = p.control :=
  (advanceQueue_leaves p h).2.2.2.2.2.1
@[simp] theorem advanceQueue_monitor (h : Tag) : (advanceQueue h p).monitor = p.monitor :=
  (advanceQueue_leaves p h).2.2.2.2.2.2.1
@[simp] theorem advanceQueue_log (h : Tag) : (advanceQueue h p).log = p.log :=
  (advanceQueue_leaves p h).2.2.2.2.2.2.2.1
@[simp] theorem advanceQueue_responder (h : Tag) : (advanceQueue h p).responder = p.responder :=
  (advanceQueue_leaves p h).2.2.2.2.2.2.2.2.1
@[simp] theorem advanceQueue_loader (h : Tag) : (advanceQueue h p).loader = p.loader :=
  (advanceQueue_leaves p h).2.2.2.2.2.2.2.2.2.1
@[simp] theorem advanceQueue_pins (h : Tag) : (advanceQueue h p).pins = p.pins :=
  (advanceQueue_leaves p h).2.2.2.2.2.2.2.2.2.2

theorem alignAt_leaves (h : Tag) :
    (alignAt h p).port = p.port ∧
      (alignAt h p).sampling = p.sampling ∧
      (alignAt h p).regulator = p.regulator ∧
      (alignAt h p).sequencer = p.sequencer ∧
      (alignAt h p).dose = p.dose ∧
      (alignAt h p).control = p.control ∧
      (alignAt h p).monitor = p.monitor ∧
      (alignAt h p).log = p.log ∧
      (alignAt h p).responder = p.responder ∧
      (alignAt h p).loader = p.loader ∧
      (alignAt h p).pins = p.pins := by
  simp [alignAt]

@[simp] theorem alignAt_port (h : Tag) : (alignAt h p).port = p.port :=
  (alignAt_leaves p h).1
@[simp] theorem alignAt_sampling (h : Tag) : (alignAt h p).sampling = p.sampling :=
  (alignAt_leaves p h).2.1
@[simp] theorem alignAt_regulator (h : Tag) : (alignAt h p).regulator = p.regulator :=
  (alignAt_leaves p h).2.2.1
@[simp] theorem alignAt_sequencer (h : Tag) : (alignAt h p).sequencer = p.sequencer :=
  (alignAt_leaves p h).2.2.2.1
@[simp] theorem alignAt_dose (h : Tag) : (alignAt h p).dose = p.dose :=
  (alignAt_leaves p h).2.2.2.2.1
@[simp] theorem alignAt_control (h : Tag) : (alignAt h p).control = p.control :=
  (alignAt_leaves p h).2.2.2.2.2.1
@[simp] theorem alignAt_monitor (h : Tag) : (alignAt h p).monitor = p.monitor :=
  (alignAt_leaves p h).2.2.2.2.2.2.1
@[simp] theorem alignAt_log (h : Tag) : (alignAt h p).log = p.log :=
  (alignAt_leaves p h).2.2.2.2.2.2.2.1
@[simp] theorem alignAt_responder (h : Tag) : (alignAt h p).responder = p.responder :=
  (alignAt_leaves p h).2.2.2.2.2.2.2.2.1
@[simp] theorem alignAt_loader (h : Tag) : (alignAt h p).loader = p.loader :=
  (alignAt_leaves p h).2.2.2.2.2.2.2.2.2.1
@[simp] theorem alignAt_pins (h : Tag) : (alignAt h p).pins = p.pins :=
  (alignAt_leaves p h).2.2.2.2.2.2.2.2.2.2

theorem moveQueue_leaves (h : Tag) (d : Int) :
    (moveQueue h d p).port = p.port ∧
      (moveQueue h d p).sampling = p.sampling ∧
      (moveQueue h d p).regulator = p.regulator ∧
      (moveQueue h d p).sequencer = p.sequencer ∧
      (moveQueue h d p).dose = p.dose ∧
      (moveQueue h d p).control = p.control ∧
      (moveQueue h d p).monitor = p.monitor ∧
      (moveQueue h d p).log = p.log ∧
      (moveQueue h d p).responder = p.responder ∧
      (moveQueue h d p).loader = p.loader ∧
      (moveQueue h d p).pins = p.pins := by
  simp [moveQueue]

@[simp] theorem moveQueue_port (h : Tag) (d : Int) : (moveQueue h d p).port = p.port :=
  (moveQueue_leaves p h d).1
@[simp] theorem moveQueue_sampling (h : Tag) (d : Int) : (moveQueue h d p).sampling = p.sampling :=
  (moveQueue_leaves p h d).2.1
@[simp] theorem moveQueue_regulator (h : Tag) (d : Int) : (moveQueue h d p).regulator = p.regulator :=
  (moveQueue_leaves p h d).2.2.1
@[simp] theorem moveQueue_sequencer (h : Tag) (d : Int) : (moveQueue h d p).sequencer = p.sequencer :=
  (moveQueue_leaves p h d).2.2.2.1
@[simp] theorem moveQueue_dose (h : Tag) (d : Int) : (moveQueue h d p).dose = p.dose :=
  (moveQueue_leaves p h d).2.2.2.2.1
@[simp] theorem moveQueue_control (h : Tag) (d : Int) : (moveQueue h d p).control = p.control :=
  (moveQueue_leaves p h d).2.2.2.2.2.1
@[simp] theorem moveQueue_monitor (h : Tag) (d : Int) : (moveQueue h d p).monitor = p.monitor :=
  (moveQueue_leaves p h d).2.2.2.2.2.2.1
@[simp] theorem moveQueue_log (h : Tag) (d : Int) : (moveQueue h d p).log = p.log :=
  (moveQueue_leaves p h d).2.2.2.2.2.2.2.1
@[simp] theorem moveQueue_responder (h : Tag) (d : Int) : (moveQueue h d p).responder = p.responder :=
  (moveQueue_leaves p h d).2.2.2.2.2.2.2.2.1
@[simp] theorem moveQueue_loader (h : Tag) (d : Int) : (moveQueue h d p).loader = p.loader :=
  (moveQueue_leaves p h d).2.2.2.2.2.2.2.2.2.1
@[simp] theorem moveQueue_pins (h : Tag) (d : Int) : (moveQueue h d p).pins = p.pins :=
  (moveQueue_leaves p h d).2.2.2.2.2.2.2.2.2.2

theorem applyRealignment_leaves (r : Realignment) :
    (applyRealignment r p).sampling = p.sampling ∧
      (applyRealignment r p).regulator = p.regulator ∧
      (applyRealignment r p).sequencer = p.sequencer ∧
      (applyRealignment r p).dose = p.dose ∧
      (applyRealignment r p).log = p.log ∧
      (applyRealignment r p).responder = p.responder ∧
      (applyRealignment r p).loader = p.loader ∧
      (applyRealignment r p).pins = p.pins ∧
      (applyRealignment r p).control.mode = p.control.mode ∧
      (applyRealignment r p).control.lineStop = p.control.lineStop ∧
      (applyRealignment r p).control.operatorHold = p.control.operatorHold ∧
      (applyRealignment r p).control.fault = p.control.fault := by
  simp only [applyRealignment]
  split <;> simp

@[simp] theorem applyRealignment_sampling (r : Realignment) : (applyRealignment r p).sampling = p.sampling :=
  (applyRealignment_leaves p r).1
@[simp] theorem applyRealignment_regulator (r : Realignment) : (applyRealignment r p).regulator = p.regulator :=
  (applyRealignment_leaves p r).2.1
@[simp] theorem applyRealignment_sequencer (r : Realignment) : (applyRealignment r p).sequencer = p.sequencer :=
  (applyRealignment_leaves p r).2.2.1
@[simp] theorem applyRealignment_dose (r : Realignment) : (applyRealignment r p).dose = p.dose :=
  (applyRealignment_leaves p r).2.2.2.1
@[simp] theorem applyRealignment_log (r : Realignment) : (applyRealignment r p).log = p.log :=
  (applyRealignment_leaves p r).2.2.2.2.1
@[simp] theorem applyRealignment_responder (r : Realignment) : (applyRealignment r p).responder = p.responder :=
  (applyRealignment_leaves p r).2.2.2.2.2.1
@[simp] theorem applyRealignment_loader (r : Realignment) : (applyRealignment r p).loader = p.loader :=
  (applyRealignment_leaves p r).2.2.2.2.2.2.1
@[simp] theorem applyRealignment_pins (r : Realignment) : (applyRealignment r p).pins = p.pins :=
  (applyRealignment_leaves p r).2.2.2.2.2.2.2.1
@[simp] theorem applyRealignment_mode (r : Realignment) : (applyRealignment r p).control.mode = p.control.mode :=
  (applyRealignment_leaves p r).2.2.2.2.2.2.2.2.1
@[simp] theorem applyRealignment_lineStop (r : Realignment) : (applyRealignment r p).control.lineStop = p.control.lineStop :=
  (applyRealignment_leaves p r).2.2.2.2.2.2.2.2.2.1
@[simp] theorem applyRealignment_operatorHold (r : Realignment) : (applyRealignment r p).control.operatorHold = p.control.operatorHold :=
  (applyRealignment_leaves p r).2.2.2.2.2.2.2.2.2.2.1
@[simp] theorem applyRealignment_fault (r : Realignment) : (applyRealignment r p).control.fault = p.control.fault :=
  (applyRealignment_leaves p r).2.2.2.2.2.2.2.2.2.2.2

theorem decideRealignment_leaves (r : Realignment) :
    (decideRealignment r p).sampling = p.sampling ∧
      (decideRealignment r p).regulator = p.regulator ∧
      (decideRealignment r p).sequencer = p.sequencer ∧
      (decideRealignment r p).dose = p.dose ∧
      (decideRealignment r p).log = p.log ∧
      (decideRealignment r p).responder = p.responder ∧
      (decideRealignment r p).loader = p.loader ∧
      (decideRealignment r p).pins = p.pins ∧
      (decideRealignment r p).control.mode = p.control.mode ∧
      (decideRealignment r p).control.lineStop = p.control.lineStop ∧
      (decideRealignment r p).control.operatorHold = p.control.operatorHold ∧
      (decideRealignment r p).control.fault = p.control.fault := by
  simp only [decideRealignment]
  split <;> simp

@[simp] theorem decideRealignment_sampling (r : Realignment) : (decideRealignment r p).sampling = p.sampling :=
  (decideRealignment_leaves p r).1
@[simp] theorem decideRealignment_regulator (r : Realignment) : (decideRealignment r p).regulator = p.regulator :=
  (decideRealignment_leaves p r).2.1
@[simp] theorem decideRealignment_sequencer (r : Realignment) : (decideRealignment r p).sequencer = p.sequencer :=
  (decideRealignment_leaves p r).2.2.1
@[simp] theorem decideRealignment_dose (r : Realignment) : (decideRealignment r p).dose = p.dose :=
  (decideRealignment_leaves p r).2.2.2.1
@[simp] theorem decideRealignment_log (r : Realignment) : (decideRealignment r p).log = p.log :=
  (decideRealignment_leaves p r).2.2.2.2.1
@[simp] theorem decideRealignment_responder (r : Realignment) : (decideRealignment r p).responder = p.responder :=
  (decideRealignment_leaves p r).2.2.2.2.2.1
@[simp] theorem decideRealignment_loader (r : Realignment) : (decideRealignment r p).loader = p.loader :=
  (decideRealignment_leaves p r).2.2.2.2.2.2.1
@[simp] theorem decideRealignment_pins (r : Realignment) : (decideRealignment r p).pins = p.pins :=
  (decideRealignment_leaves p r).2.2.2.2.2.2.2.1
@[simp] theorem decideRealignment_mode (r : Realignment) : (decideRealignment r p).control.mode = p.control.mode :=
  (decideRealignment_leaves p r).2.2.2.2.2.2.2.2.1
@[simp] theorem decideRealignment_lineStop (r : Realignment) : (decideRealignment r p).control.lineStop = p.control.lineStop :=
  (decideRealignment_leaves p r).2.2.2.2.2.2.2.2.2.1
@[simp] theorem decideRealignment_operatorHold (r : Realignment) : (decideRealignment r p).control.operatorHold = p.control.operatorHold :=
  (decideRealignment_leaves p r).2.2.2.2.2.2.2.2.2.2.1
@[simp] theorem decideRealignment_fault (r : Realignment) : (decideRealignment r p).control.fault = p.control.fault :=
  (decideRealignment_leaves p r).2.2.2.2.2.2.2.2.2.2.2

theorem takeSkew_leaves (h : Tag) (d : Int) :
    (takeSkew h d p).sampling = p.sampling ∧
      (takeSkew h d p).regulator = p.regulator ∧
      (takeSkew h d p).sequencer = p.sequencer ∧
      (takeSkew h d p).dose = p.dose ∧
      (takeSkew h d p).log = p.log ∧
      (takeSkew h d p).responder = p.responder ∧
      (takeSkew h d p).loader = p.loader ∧
      (takeSkew h d p).pins = p.pins ∧
      (takeSkew h d p).control.mode = p.control.mode ∧
      (takeSkew h d p).control.lineStop = p.control.lineStop ∧
      (takeSkew h d p).control.operatorHold = p.control.operatorHold ∧
      (takeSkew h d p).control.fault = p.control.fault := by
  simp only [takeSkew]
  repeat' split
  all_goals simp

@[simp] theorem takeSkew_sampling (h : Tag) (d : Int) : (takeSkew h d p).sampling = p.sampling :=
  (takeSkew_leaves p h d).1
@[simp] theorem takeSkew_regulator (h : Tag) (d : Int) : (takeSkew h d p).regulator = p.regulator :=
  (takeSkew_leaves p h d).2.1
@[simp] theorem takeSkew_sequencer (h : Tag) (d : Int) : (takeSkew h d p).sequencer = p.sequencer :=
  (takeSkew_leaves p h d).2.2.1
@[simp] theorem takeSkew_dose (h : Tag) (d : Int) : (takeSkew h d p).dose = p.dose :=
  (takeSkew_leaves p h d).2.2.2.1
@[simp] theorem takeSkew_log (h : Tag) (d : Int) : (takeSkew h d p).log = p.log :=
  (takeSkew_leaves p h d).2.2.2.2.1
@[simp] theorem takeSkew_responder (h : Tag) (d : Int) : (takeSkew h d p).responder = p.responder :=
  (takeSkew_leaves p h d).2.2.2.2.2.1
@[simp] theorem takeSkew_loader (h : Tag) (d : Int) : (takeSkew h d p).loader = p.loader :=
  (takeSkew_leaves p h d).2.2.2.2.2.2.1
@[simp] theorem takeSkew_pins (h : Tag) (d : Int) : (takeSkew h d p).pins = p.pins :=
  (takeSkew_leaves p h d).2.2.2.2.2.2.2.1
@[simp] theorem takeSkew_mode (h : Tag) (d : Int) : (takeSkew h d p).control.mode = p.control.mode :=
  (takeSkew_leaves p h d).2.2.2.2.2.2.2.2.1
@[simp] theorem takeSkew_lineStop (h : Tag) (d : Int) : (takeSkew h d p).control.lineStop = p.control.lineStop :=
  (takeSkew_leaves p h d).2.2.2.2.2.2.2.2.2.1
@[simp] theorem takeSkew_operatorHold (h : Tag) (d : Int) : (takeSkew h d p).control.operatorHold = p.control.operatorHold :=
  (takeSkew_leaves p h d).2.2.2.2.2.2.2.2.2.2.1
@[simp] theorem takeSkew_fault (h : Tag) (d : Int) : (takeSkew h d p).control.fault = p.control.fault :=
  (takeSkew_leaves p h d).2.2.2.2.2.2.2.2.2.2.2

theorem flush_leaves (cause : VoidCause) :
    (flush cause p).sampling = p.sampling ∧
      (flush cause p).regulator = p.regulator ∧
      (flush cause p).sequencer = p.sequencer ∧
      (flush cause p).dose = p.dose ∧
      (flush cause p).log = p.log ∧
      (flush cause p).responder = p.responder ∧
      (flush cause p).loader = p.loader ∧
      (flush cause p).pins = p.pins ∧
      (flush cause p).control.mode = p.control.mode ∧
      (flush cause p).control.lineStop = p.control.lineStop ∧
      (flush cause p).control.operatorHold = p.control.operatorHold ∧
      (flush cause p).control.fault = p.control.fault := by
  simp only [flush]
  split <;> simp

@[simp] theorem flush_sampling (cause : VoidCause) : (flush cause p).sampling = p.sampling :=
  (flush_leaves p cause).1
@[simp] theorem flush_regulator (cause : VoidCause) : (flush cause p).regulator = p.regulator :=
  (flush_leaves p cause).2.1
@[simp] theorem flush_sequencer (cause : VoidCause) : (flush cause p).sequencer = p.sequencer :=
  (flush_leaves p cause).2.2.1
@[simp] theorem flush_dose (cause : VoidCause) : (flush cause p).dose = p.dose :=
  (flush_leaves p cause).2.2.2.1
@[simp] theorem flush_log (cause : VoidCause) : (flush cause p).log = p.log :=
  (flush_leaves p cause).2.2.2.2.1
@[simp] theorem flush_responder (cause : VoidCause) : (flush cause p).responder = p.responder :=
  (flush_leaves p cause).2.2.2.2.2.1
@[simp] theorem flush_loader (cause : VoidCause) : (flush cause p).loader = p.loader :=
  (flush_leaves p cause).2.2.2.2.2.2.1
@[simp] theorem flush_pins (cause : VoidCause) : (flush cause p).pins = p.pins :=
  (flush_leaves p cause).2.2.2.2.2.2.2.1
@[simp] theorem flush_mode (cause : VoidCause) : (flush cause p).control.mode = p.control.mode :=
  (flush_leaves p cause).2.2.2.2.2.2.2.2.1
@[simp] theorem flush_lineStop (cause : VoidCause) : (flush cause p).control.lineStop = p.control.lineStop :=
  (flush_leaves p cause).2.2.2.2.2.2.2.2.2.1
@[simp] theorem flush_operatorHold (cause : VoidCause) : (flush cause p).control.operatorHold = p.control.operatorHold :=
  (flush_leaves p cause).2.2.2.2.2.2.2.2.2.2.1
@[simp] theorem flush_fault (cause : VoidCause) : (flush cause p).control.fault = p.control.fault :=
  (flush_leaves p cause).2.2.2.2.2.2.2.2.2.2.2

end Sys2Proof.Machine
end

