-- ==== Sys2Proof/Laws/ModesFrames.lean ====
section
/-! SUPPORT. What the mode controller and the platen sequencer leave unchanged: one lemma per operation, the conjunction of the blocks it does not touch, and its parts for simp. -/

namespace Sys2Proof.Machine

variable (p : Part)

theorem setMode_leaves (m : Mode) :
    (setMode m p).port = p.port ∧
      (setMode m p).tracker = p.tracker ∧
      (setMode m p).sampling = p.sampling ∧
      (setMode m p).dose = p.dose ∧
      (setMode m p).monitor = p.monitor ∧
      (setMode m p).log = p.log ∧
      (setMode m p).responder = p.responder ∧
      (setMode m p).loader = p.loader ∧
      (setMode m p).pins = p.pins ∧
      (setMode m p).control.lineStop = p.control.lineStop ∧
      (setMode m p).control.operatorHold = p.control.operatorHold ∧
      (setMode m p).control.fault = p.control.fault := by
  simp [setMode]

@[simp] theorem setMode_port (m : Mode) : (setMode m p).port = p.port :=
  (setMode_leaves p m).1
@[simp] theorem setMode_tracker (m : Mode) : (setMode m p).tracker = p.tracker :=
  (setMode_leaves p m).2.1
@[simp] theorem setMode_sampling (m : Mode) : (setMode m p).sampling = p.sampling :=
  (setMode_leaves p m).2.2.1
@[simp] theorem setMode_dose (m : Mode) : (setMode m p).dose = p.dose :=
  (setMode_leaves p m).2.2.2.1
@[simp] theorem setMode_monitor (m : Mode) : (setMode m p).monitor = p.monitor :=
  (setMode_leaves p m).2.2.2.2.1
@[simp] theorem setMode_log (m : Mode) : (setMode m p).log = p.log :=
  (setMode_leaves p m).2.2.2.2.2.1
@[simp] theorem setMode_responder (m : Mode) : (setMode m p).responder = p.responder :=
  (setMode_leaves p m).2.2.2.2.2.2.1
@[simp] theorem setMode_loader (m : Mode) : (setMode m p).loader = p.loader :=
  (setMode_leaves p m).2.2.2.2.2.2.2.1
@[simp] theorem setMode_pins (m : Mode) : (setMode m p).pins = p.pins :=
  (setMode_leaves p m).2.2.2.2.2.2.2.2.1
@[simp] theorem setMode_lineStop (m : Mode) : (setMode m p).control.lineStop = p.control.lineStop :=
  (setMode_leaves p m).2.2.2.2.2.2.2.2.2.1
@[simp] theorem setMode_operatorHold (m : Mode) : (setMode m p).control.operatorHold = p.control.operatorHold :=
  (setMode_leaves p m).2.2.2.2.2.2.2.2.2.2.1
@[simp] theorem setMode_fault (m : Mode) : (setMode m p).control.fault = p.control.fault :=
  (setMode_leaves p m).2.2.2.2.2.2.2.2.2.2.2

theorem runToHold_leaves :
    (runToHold p).port = p.port ∧
      (runToHold p).tracker = p.tracker ∧
      (runToHold p).sampling = p.sampling ∧
      (runToHold p).dose = p.dose ∧
      (runToHold p).monitor = p.monitor ∧
      (runToHold p).log = p.log ∧
      (runToHold p).responder = p.responder ∧
      (runToHold p).loader = p.loader ∧
      (runToHold p).pins = p.pins ∧
      (runToHold p).control.lineStop = p.control.lineStop ∧
      (runToHold p).control.operatorHold = p.control.operatorHold ∧
      (runToHold p).control.fault = p.control.fault := by
  simp only [runToHold]
  split <;> simp

@[simp] theorem runToHold_port : (runToHold p).port = p.port :=
  (runToHold_leaves p).1
@[simp] theorem runToHold_tracker : (runToHold p).tracker = p.tracker :=
  (runToHold_leaves p).2.1
@[simp] theorem runToHold_sampling : (runToHold p).sampling = p.sampling :=
  (runToHold_leaves p).2.2.1
@[simp] theorem runToHold_dose : (runToHold p).dose = p.dose :=
  (runToHold_leaves p).2.2.2.1
@[simp] theorem runToHold_monitor : (runToHold p).monitor = p.monitor :=
  (runToHold_leaves p).2.2.2.2.1
@[simp] theorem runToHold_log : (runToHold p).log = p.log :=
  (runToHold_leaves p).2.2.2.2.2.1
@[simp] theorem runToHold_responder : (runToHold p).responder = p.responder :=
  (runToHold_leaves p).2.2.2.2.2.2.1
@[simp] theorem runToHold_loader : (runToHold p).loader = p.loader :=
  (runToHold_leaves p).2.2.2.2.2.2.2.1
@[simp] theorem runToHold_pins : (runToHold p).pins = p.pins :=
  (runToHold_leaves p).2.2.2.2.2.2.2.2.1
@[simp] theorem runToHold_lineStop : (runToHold p).control.lineStop = p.control.lineStop :=
  (runToHold_leaves p).2.2.2.2.2.2.2.2.2.1
@[simp] theorem runToHold_operatorHold : (runToHold p).control.operatorHold = p.control.operatorHold :=
  (runToHold_leaves p).2.2.2.2.2.2.2.2.2.2.1
@[simp] theorem runToHold_fault : (runToHold p).control.fault = p.control.fault :=
  (runToHold_leaves p).2.2.2.2.2.2.2.2.2.2.2

theorem holdToRun_leaves :
    (holdToRun p).port = p.port ∧
      (holdToRun p).tracker = p.tracker ∧
      (holdToRun p).sampling = p.sampling ∧
      (holdToRun p).dose = p.dose ∧
      (holdToRun p).monitor = p.monitor ∧
      (holdToRun p).log = p.log ∧
      (holdToRun p).responder = p.responder ∧
      (holdToRun p).loader = p.loader ∧
      (holdToRun p).pins = p.pins ∧
      (holdToRun p).control.lineStop = p.control.lineStop ∧
      (holdToRun p).control.operatorHold = p.control.operatorHold ∧
      (holdToRun p).control.fault = p.control.fault := by
  simp only [holdToRun]
  split <;> simp

@[simp] theorem holdToRun_port : (holdToRun p).port = p.port :=
  (holdToRun_leaves p).1
@[simp] theorem holdToRun_tracker : (holdToRun p).tracker = p.tracker :=
  (holdToRun_leaves p).2.1
@[simp] theorem holdToRun_sampling : (holdToRun p).sampling = p.sampling :=
  (holdToRun_leaves p).2.2.1
@[simp] theorem holdToRun_dose : (holdToRun p).dose = p.dose :=
  (holdToRun_leaves p).2.2.2.1
@[simp] theorem holdToRun_monitor : (holdToRun p).monitor = p.monitor :=
  (holdToRun_leaves p).2.2.2.2.1
@[simp] theorem holdToRun_log : (holdToRun p).log = p.log :=
  (holdToRun_leaves p).2.2.2.2.2.1
@[simp] theorem holdToRun_responder : (holdToRun p).responder = p.responder :=
  (holdToRun_leaves p).2.2.2.2.2.2.1
@[simp] theorem holdToRun_loader : (holdToRun p).loader = p.loader :=
  (holdToRun_leaves p).2.2.2.2.2.2.2.1
@[simp] theorem holdToRun_pins : (holdToRun p).pins = p.pins :=
  (holdToRun_leaves p).2.2.2.2.2.2.2.2.1
@[simp] theorem holdToRun_lineStop : (holdToRun p).control.lineStop = p.control.lineStop :=
  (holdToRun_leaves p).2.2.2.2.2.2.2.2.2.1
@[simp] theorem holdToRun_operatorHold : (holdToRun p).control.operatorHold = p.control.operatorHold :=
  (holdToRun_leaves p).2.2.2.2.2.2.2.2.2.2.1
@[simp] theorem holdToRun_fault : (holdToRun p).control.fault = p.control.fault :=
  (holdToRun_leaves p).2.2.2.2.2.2.2.2.2.2.2

theorem stopToHold_leaves :
    (stopToHold p).port = p.port ∧
      (stopToHold p).sampling = p.sampling ∧
      (stopToHold p).dose = p.dose ∧
      (stopToHold p).monitor = p.monitor ∧
      (stopToHold p).log = p.log ∧
      (stopToHold p).responder = p.responder ∧
      (stopToHold p).loader = p.loader ∧
      (stopToHold p).pins = p.pins ∧
      (stopToHold p).control.lineStop = p.control.lineStop ∧
      (stopToHold p).control.operatorHold = p.control.operatorHold ∧
      (stopToHold p).control.fault = p.control.fault := by
  simp only [stopToHold]
  split <;> simp

@[simp] theorem stopToHold_port : (stopToHold p).port = p.port :=
  (stopToHold_leaves p).1
@[simp] theorem stopToHold_sampling : (stopToHold p).sampling = p.sampling :=
  (stopToHold_leaves p).2.1
@[simp] theorem stopToHold_dose : (stopToHold p).dose = p.dose :=
  (stopToHold_leaves p).2.2.1
@[simp] theorem stopToHold_monitor : (stopToHold p).monitor = p.monitor :=
  (stopToHold_leaves p).2.2.2.1
@[simp] theorem stopToHold_log : (stopToHold p).log = p.log :=
  (stopToHold_leaves p).2.2.2.2.1
@[simp] theorem stopToHold_responder : (stopToHold p).responder = p.responder :=
  (stopToHold_leaves p).2.2.2.2.2.1
@[simp] theorem stopToHold_loader : (stopToHold p).loader = p.loader :=
  (stopToHold_leaves p).2.2.2.2.2.2.1
@[simp] theorem stopToHold_pins : (stopToHold p).pins = p.pins :=
  (stopToHold_leaves p).2.2.2.2.2.2.2.1
@[simp] theorem stopToHold_lineStop : (stopToHold p).control.lineStop = p.control.lineStop :=
  (stopToHold_leaves p).2.2.2.2.2.2.2.2.1
@[simp] theorem stopToHold_operatorHold : (stopToHold p).control.operatorHold = p.control.operatorHold :=
  (stopToHold_leaves p).2.2.2.2.2.2.2.2.2.1
@[simp] theorem stopToHold_fault : (stopToHold p).control.fault = p.control.fault :=
  (stopToHold_leaves p).2.2.2.2.2.2.2.2.2.2

theorem activateStop_leaves :
    (activateStop p).sampling = p.sampling ∧
      (activateStop p).dose = p.dose ∧
      (activateStop p).log = p.log ∧
      (activateStop p).responder = p.responder ∧
      (activateStop p).loader = p.loader ∧
      (activateStop p).pins = p.pins ∧
      (activateStop p).control.operatorHold = p.control.operatorHold ∧
      (activateStop p).control.fault = p.control.fault := by
  simp [activateStop]

@[simp] theorem activateStop_sampling : (activateStop p).sampling = p.sampling :=
  (activateStop_leaves p).1
@[simp] theorem activateStop_dose : (activateStop p).dose = p.dose :=
  (activateStop_leaves p).2.1
@[simp] theorem activateStop_log : (activateStop p).log = p.log :=
  (activateStop_leaves p).2.2.1
@[simp] theorem activateStop_responder : (activateStop p).responder = p.responder :=
  (activateStop_leaves p).2.2.2.1
@[simp] theorem activateStop_loader : (activateStop p).loader = p.loader :=
  (activateStop_leaves p).2.2.2.2.1
@[simp] theorem activateStop_pins : (activateStop p).pins = p.pins :=
  (activateStop_leaves p).2.2.2.2.2.1
@[simp] theorem activateStop_operatorHold : (activateStop p).control.operatorHold = p.control.operatorHold :=
  (activateStop_leaves p).2.2.2.2.2.2.1
@[simp] theorem activateStop_fault : (activateStop p).control.fault = p.control.fault :=
  (activateStop_leaves p).2.2.2.2.2.2.2

theorem enterAligned_leaves :
    (enterAligned p).port = p.port ∧
      (enterAligned p).tracker = p.tracker ∧
      (enterAligned p).sampling = p.sampling ∧
      (enterAligned p).dose = p.dose ∧
      (enterAligned p).monitor = p.monitor ∧
      (enterAligned p).log = p.log ∧
      (enterAligned p).responder = p.responder ∧
      (enterAligned p).loader = p.loader ∧
      (enterAligned p).pins = p.pins ∧
      (enterAligned p).control.lineStop = p.control.lineStop ∧
      (enterAligned p).control.operatorHold = p.control.operatorHold ∧
      (enterAligned p).control.fault = p.control.fault := by
  simp only [enterAligned]
  split <;> simp

@[simp] theorem enterAligned_port : (enterAligned p).port = p.port :=
  (enterAligned_leaves p).1
@[simp] theorem enterAligned_tracker : (enterAligned p).tracker = p.tracker :=
  (enterAligned_leaves p).2.1
@[simp] theorem enterAligned_sampling : (enterAligned p).sampling = p.sampling :=
  (enterAligned_leaves p).2.2.1
@[simp] theorem enterAligned_dose : (enterAligned p).dose = p.dose :=
  (enterAligned_leaves p).2.2.2.1
@[simp] theorem enterAligned_monitor : (enterAligned p).monitor = p.monitor :=
  (enterAligned_leaves p).2.2.2.2.1
@[simp] theorem enterAligned_log : (enterAligned p).log = p.log :=
  (enterAligned_leaves p).2.2.2.2.2.1
@[simp] theorem enterAligned_responder : (enterAligned p).responder = p.responder :=
  (enterAligned_leaves p).2.2.2.2.2.2.1
@[simp] theorem enterAligned_loader : (enterAligned p).loader = p.loader :=
  (enterAligned_leaves p).2.2.2.2.2.2.2.1
@[simp] theorem enterAligned_pins : (enterAligned p).pins = p.pins :=
  (enterAligned_leaves p).2.2.2.2.2.2.2.2.1
@[simp] theorem enterAligned_lineStop : (enterAligned p).control.lineStop = p.control.lineStop :=
  (enterAligned_leaves p).2.2.2.2.2.2.2.2.2.1
@[simp] theorem enterAligned_operatorHold : (enterAligned p).control.operatorHold = p.control.operatorHold :=
  (enterAligned_leaves p).2.2.2.2.2.2.2.2.2.2.1
@[simp] theorem enterAligned_fault : (enterAligned p).control.fault = p.control.fault :=
  (enterAligned_leaves p).2.2.2.2.2.2.2.2.2.2.2

theorem completeStart_leaves :
    (completeStart p).tracker = p.tracker ∧
      (completeStart p).sampling = p.sampling ∧
      (completeStart p).dose = p.dose ∧
      (completeStart p).log = p.log ∧
      (completeStart p).responder = p.responder ∧
      (completeStart p).pins = p.pins ∧
      (completeStart p).control.operatorHold = p.control.operatorHold ∧
      (completeStart p).control.fault = p.control.fault := by
  simp only [completeStart]
  split
  · simp [activateStop, stopToHold, setMode]
  · simp

@[simp] theorem completeStart_tracker : (completeStart p).tracker = p.tracker :=
  (completeStart_leaves p).1
@[simp] theorem completeStart_sampling : (completeStart p).sampling = p.sampling :=
  (completeStart_leaves p).2.1
@[simp] theorem completeStart_dose : (completeStart p).dose = p.dose :=
  (completeStart_leaves p).2.2.1
@[simp] theorem completeStart_log : (completeStart p).log = p.log :=
  (completeStart_leaves p).2.2.2.1
@[simp] theorem completeStart_responder : (completeStart p).responder = p.responder :=
  (completeStart_leaves p).2.2.2.2.1
@[simp] theorem completeStart_pins : (completeStart p).pins = p.pins :=
  (completeStart_leaves p).2.2.2.2.2.1
@[simp] theorem completeStart_operatorHold : (completeStart p).control.operatorHold = p.control.operatorHold :=
  (completeStart_leaves p).2.2.2.2.2.2.1
@[simp] theorem completeStart_fault : (completeStart p).control.fault = p.control.fault :=
  (completeStart_leaves p).2.2.2.2.2.2.2

theorem openCommand_leaves :
    (openCommand p).port = p.port ∧
      (openCommand p).tracker = p.tracker ∧
      (openCommand p).sampling = p.sampling ∧
      (openCommand p).regulator = p.regulator ∧
      (openCommand p).control = p.control ∧
      (openCommand p).log = p.log ∧
      (openCommand p).responder = p.responder ∧
      (openCommand p).loader = p.loader ∧
      (openCommand p).pins = p.pins := by
  simp [openCommand]

@[simp] theorem openCommand_port : (openCommand p).port = p.port :=
  (openCommand_leaves p).1
@[simp] theorem openCommand_tracker : (openCommand p).tracker = p.tracker :=
  (openCommand_leaves p).2.1
@[simp] theorem openCommand_sampling : (openCommand p).sampling = p.sampling :=
  (openCommand_leaves p).2.2.1
@[simp] theorem openCommand_regulator : (openCommand p).regulator = p.regulator :=
  (openCommand_leaves p).2.2.2.1
@[simp] theorem openCommand_control : (openCommand p).control = p.control :=
  (openCommand_leaves p).2.2.2.2.1
@[simp] theorem openCommand_log : (openCommand p).log = p.log :=
  (openCommand_leaves p).2.2.2.2.2.1
@[simp] theorem openCommand_responder : (openCommand p).responder = p.responder :=
  (openCommand_leaves p).2.2.2.2.2.2.1
@[simp] theorem openCommand_loader : (openCommand p).loader = p.loader :=
  (openCommand_leaves p).2.2.2.2.2.2.2.1
@[simp] theorem openCommand_pins : (openCommand p).pins = p.pins :=
  (openCommand_leaves p).2.2.2.2.2.2.2.2

theorem closeCommand_leaves (limit : Nat) (pressed : Nat → Bool) (aims : Nat → Nat) :
    (closeCommand limit pressed aims p).port = p.port ∧
      (closeCommand limit pressed aims p).tracker = p.tracker ∧
      (closeCommand limit pressed aims p).sampling = p.sampling ∧
      (closeCommand limit pressed aims p).regulator = p.regulator ∧
      (closeCommand limit pressed aims p).control = p.control ∧
      (closeCommand limit pressed aims p).monitor = p.monitor ∧
      (closeCommand limit pressed aims p).log = p.log ∧
      (closeCommand limit pressed aims p).responder = p.responder ∧
      (closeCommand limit pressed aims p).loader = p.loader ∧
      (closeCommand limit pressed aims p).pins = p.pins := by
  simp [closeCommand]

@[simp] theorem closeCommand_port (limit : Nat) (pressed : Nat → Bool) (aims : Nat → Nat) : (closeCommand limit pressed aims p).port = p.port :=
  (closeCommand_leaves p limit pressed aims).1
@[simp] theorem closeCommand_tracker (limit : Nat) (pressed : Nat → Bool) (aims : Nat → Nat) : (closeCommand limit pressed aims p).tracker = p.tracker :=
  (closeCommand_leaves p limit pressed aims).2.1
@[simp] theorem closeCommand_sampling (limit : Nat) (pressed : Nat → Bool) (aims : Nat → Nat) : (closeCommand limit pressed aims p).sampling = p.sampling :=
  (closeCommand_leaves p limit pressed aims).2.2.1
@[simp] theorem closeCommand_regulator (limit : Nat) (pressed : Nat → Bool) (aims : Nat → Nat) : (closeCommand limit pressed aims p).regulator = p.regulator :=
  (closeCommand_leaves p limit pressed aims).2.2.2.1
@[simp] theorem closeCommand_control (limit : Nat) (pressed : Nat → Bool) (aims : Nat → Nat) : (closeCommand limit pressed aims p).control = p.control :=
  (closeCommand_leaves p limit pressed aims).2.2.2.2.1
@[simp] theorem closeCommand_monitor (limit : Nat) (pressed : Nat → Bool) (aims : Nat → Nat) : (closeCommand limit pressed aims p).monitor = p.monitor :=
  (closeCommand_leaves p limit pressed aims).2.2.2.2.2.1
@[simp] theorem closeCommand_log (limit : Nat) (pressed : Nat → Bool) (aims : Nat → Nat) : (closeCommand limit pressed aims p).log = p.log :=
  (closeCommand_leaves p limit pressed aims).2.2.2.2.2.2.1
@[simp] theorem closeCommand_responder (limit : Nat) (pressed : Nat → Bool) (aims : Nat → Nat) : (closeCommand limit pressed aims p).responder = p.responder :=
  (closeCommand_leaves p limit pressed aims).2.2.2.2.2.2.2.1
@[simp] theorem closeCommand_loader (limit : Nat) (pressed : Nat → Bool) (aims : Nat → Nat) : (closeCommand limit pressed aims p).loader = p.loader :=
  (closeCommand_leaves p limit pressed aims).2.2.2.2.2.2.2.2.1
@[simp] theorem closeCommand_pins (limit : Nat) (pressed : Nat → Bool) (aims : Nat → Nat) : (closeCommand limit pressed aims p).pins = p.pins :=
  (closeCommand_leaves p limit pressed aims).2.2.2.2.2.2.2.2.2

theorem backToOpen_leaves :
    (backToOpen p).port = p.port ∧
      (backToOpen p).tracker = p.tracker ∧
      (backToOpen p).sampling = p.sampling ∧
      (backToOpen p).regulator = p.regulator ∧
      (backToOpen p).dose = p.dose ∧
      (backToOpen p).control = p.control ∧
      (backToOpen p).monitor = p.monitor ∧
      (backToOpen p).log = p.log ∧
      (backToOpen p).responder = p.responder ∧
      (backToOpen p).loader = p.loader ∧
      (backToOpen p).pins = p.pins := by
  simp [backToOpen]

@[simp] theorem backToOpen_port : (backToOpen p).port = p.port :=
  (backToOpen_leaves p).1
@[simp] theorem backToOpen_tracker : (backToOpen p).tracker = p.tracker :=
  (backToOpen_leaves p).2.1
@[simp] theorem backToOpen_sampling : (backToOpen p).sampling = p.sampling :=
  (backToOpen_leaves p).2.2.1
@[simp] theorem backToOpen_regulator : (backToOpen p).regulator = p.regulator :=
  (backToOpen_leaves p).2.2.2.1
@[simp] theorem backToOpen_dose : (backToOpen p).dose = p.dose :=
  (backToOpen_leaves p).2.2.2.2.1
@[simp] theorem backToOpen_control : (backToOpen p).control = p.control :=
  (backToOpen_leaves p).2.2.2.2.2.1
@[simp] theorem backToOpen_monitor : (backToOpen p).monitor = p.monitor :=
  (backToOpen_leaves p).2.2.2.2.2.2.1
@[simp] theorem backToOpen_log : (backToOpen p).log = p.log :=
  (backToOpen_leaves p).2.2.2.2.2.2.2.1
@[simp] theorem backToOpen_responder : (backToOpen p).responder = p.responder :=
  (backToOpen_leaves p).2.2.2.2.2.2.2.2.1
@[simp] theorem backToOpen_loader : (backToOpen p).loader = p.loader :=
  (backToOpen_leaves p).2.2.2.2.2.2.2.2.2.1
@[simp] theorem backToOpen_pins : (backToOpen p).pins = p.pins :=
  (backToOpen_leaves p).2.2.2.2.2.2.2.2.2.2

theorem noClose_leaves :
    (noClose p).port = p.port ∧
      (noClose p).tracker = p.tracker ∧
      (noClose p).sampling = p.sampling ∧
      (noClose p).regulator = p.regulator ∧
      (noClose p).sequencer = p.sequencer ∧
      (noClose p).control = p.control ∧
      (noClose p).monitor = p.monitor ∧
      (noClose p).log = p.log ∧
      (noClose p).responder = p.responder ∧
      (noClose p).loader = p.loader ∧
      (noClose p).pins = p.pins := by
  simp [noClose]

@[simp] theorem noClose_port : (noClose p).port = p.port :=
  (noClose_leaves p).1
@[simp] theorem noClose_tracker : (noClose p).tracker = p.tracker :=
  (noClose_leaves p).2.1
@[simp] theorem noClose_sampling : (noClose p).sampling = p.sampling :=
  (noClose_leaves p).2.2.1
@[simp] theorem noClose_regulator : (noClose p).regulator = p.regulator :=
  (noClose_leaves p).2.2.2.1
@[simp] theorem noClose_sequencer : (noClose p).sequencer = p.sequencer :=
  (noClose_leaves p).2.2.2.2.1
@[simp] theorem noClose_control : (noClose p).control = p.control :=
  (noClose_leaves p).2.2.2.2.2.1
@[simp] theorem noClose_monitor : (noClose p).monitor = p.monitor :=
  (noClose_leaves p).2.2.2.2.2.2.1
@[simp] theorem noClose_log : (noClose p).log = p.log :=
  (noClose_leaves p).2.2.2.2.2.2.2.1
@[simp] theorem noClose_responder : (noClose p).responder = p.responder :=
  (noClose_leaves p).2.2.2.2.2.2.2.2.1
@[simp] theorem noClose_loader : (noClose p).loader = p.loader :=
  (noClose_leaves p).2.2.2.2.2.2.2.2.2.1
@[simp] theorem noClose_pins : (noClose p).pins = p.pins :=
  (noClose_leaves p).2.2.2.2.2.2.2.2.2.2

theorem settleRow_leaves :
    (settleRow p).sampling = p.sampling ∧
      (settleRow p).regulator = p.regulator ∧
      (settleRow p).responder = p.responder ∧
      (settleRow p).loader = p.loader ∧
      (settleRow p).pins = p.pins ∧
      (settleRow p).control.mode = p.control.mode ∧
      (settleRow p).control.lineStop = p.control.lineStop ∧
      (settleRow p).control.operatorHold = p.control.operatorHold ∧
      (settleRow p).control.fault = p.control.fault := by
  simp only [settleRow]
  repeat' split
  all_goals simp

@[simp] theorem settleRow_sampling : (settleRow p).sampling = p.sampling :=
  (settleRow_leaves p).1
@[simp] theorem settleRow_regulator : (settleRow p).regulator = p.regulator :=
  (settleRow_leaves p).2.1
@[simp] theorem settleRow_responder : (settleRow p).responder = p.responder :=
  (settleRow_leaves p).2.2.1
@[simp] theorem settleRow_loader : (settleRow p).loader = p.loader :=
  (settleRow_leaves p).2.2.2.1
@[simp] theorem settleRow_pins : (settleRow p).pins = p.pins :=
  (settleRow_leaves p).2.2.2.2.1
@[simp] theorem settleRow_mode : (settleRow p).control.mode = p.control.mode :=
  (settleRow_leaves p).2.2.2.2.2.1
@[simp] theorem settleRow_lineStop : (settleRow p).control.lineStop = p.control.lineStop :=
  (settleRow_leaves p).2.2.2.2.2.2.1
@[simp] theorem settleRow_operatorHold : (settleRow p).control.operatorHold = p.control.operatorHold :=
  (settleRow_leaves p).2.2.2.2.2.2.2.1
@[simp] theorem settleRow_fault : (settleRow p).control.fault = p.control.fault :=
  (settleRow_leaves p).2.2.2.2.2.2.2.2

theorem settleDry_leaves :
    (settleDry p).port = p.port ∧
      (settleDry p).tracker = p.tracker ∧
      (settleDry p).sampling = p.sampling ∧
      (settleDry p).regulator = p.regulator ∧
      (settleDry p).control = p.control ∧
      (settleDry p).monitor = p.monitor ∧
      (settleDry p).log = p.log ∧
      (settleDry p).responder = p.responder ∧
      (settleDry p).loader = p.loader ∧
      (settleDry p).pins = p.pins := by
  simp only [settleDry]
  split <;> simp

@[simp] theorem settleDry_port : (settleDry p).port = p.port :=
  (settleDry_leaves p).1
@[simp] theorem settleDry_tracker : (settleDry p).tracker = p.tracker :=
  (settleDry_leaves p).2.1
@[simp] theorem settleDry_sampling : (settleDry p).sampling = p.sampling :=
  (settleDry_leaves p).2.2.1
@[simp] theorem settleDry_regulator : (settleDry p).regulator = p.regulator :=
  (settleDry_leaves p).2.2.2.1
@[simp] theorem settleDry_control : (settleDry p).control = p.control :=
  (settleDry_leaves p).2.2.2.2.1
@[simp] theorem settleDry_monitor : (settleDry p).monitor = p.monitor :=
  (settleDry_leaves p).2.2.2.2.2.1
@[simp] theorem settleDry_log : (settleDry p).log = p.log :=
  (settleDry_leaves p).2.2.2.2.2.2.1
@[simp] theorem settleDry_responder : (settleDry p).responder = p.responder :=
  (settleDry_leaves p).2.2.2.2.2.2.2.1
@[simp] theorem settleDry_loader : (settleDry p).loader = p.loader :=
  (settleDry_leaves p).2.2.2.2.2.2.2.2.1
@[simp] theorem settleDry_pins : (settleDry p).pins = p.pins :=
  (settleDry_leaves p).2.2.2.2.2.2.2.2.2

theorem beginDry_leaves :
    (beginDry p).port = p.port ∧
      (beginDry p).tracker = p.tracker ∧
      (beginDry p).sampling = p.sampling ∧
      (beginDry p).regulator = p.regulator ∧
      (beginDry p).control = p.control ∧
      (beginDry p).monitor = p.monitor ∧
      (beginDry p).log = p.log ∧
      (beginDry p).responder = p.responder ∧
      (beginDry p).loader = p.loader ∧
      (beginDry p).pins = p.pins := by
  simp only [beginDry]
  split <;> simp

@[simp] theorem beginDry_port : (beginDry p).port = p.port :=
  (beginDry_leaves p).1
@[simp] theorem beginDry_tracker : (beginDry p).tracker = p.tracker :=
  (beginDry_leaves p).2.1
@[simp] theorem beginDry_sampling : (beginDry p).sampling = p.sampling :=
  (beginDry_leaves p).2.2.1
@[simp] theorem beginDry_regulator : (beginDry p).regulator = p.regulator :=
  (beginDry_leaves p).2.2.2.1
@[simp] theorem beginDry_control : (beginDry p).control = p.control :=
  (beginDry_leaves p).2.2.2.2.1
@[simp] theorem beginDry_monitor : (beginDry p).monitor = p.monitor :=
  (beginDry_leaves p).2.2.2.2.2.1
@[simp] theorem beginDry_log : (beginDry p).log = p.log :=
  (beginDry_leaves p).2.2.2.2.2.2.1
@[simp] theorem beginDry_responder : (beginDry p).responder = p.responder :=
  (beginDry_leaves p).2.2.2.2.2.2.2.1
@[simp] theorem beginDry_loader : (beginDry p).loader = p.loader :=
  (beginDry_leaves p).2.2.2.2.2.2.2.2.1
@[simp] theorem beginDry_pins : (beginDry p).pins = p.pins :=
  (beginDry_leaves p).2.2.2.2.2.2.2.2.2

theorem beginDue_leaves :
    (beginDue p).port = p.port ∧
      (beginDue p).tracker = p.tracker ∧
      (beginDue p).sampling = p.sampling ∧
      (beginDue p).regulator = p.regulator ∧
      (beginDue p).control = p.control ∧
      (beginDue p).monitor = p.monitor ∧
      (beginDue p).log = p.log ∧
      (beginDue p).responder = p.responder ∧
      (beginDue p).loader = p.loader ∧
      (beginDue p).pins = p.pins := by
  simp only [beginDue]
  split <;> simp

@[simp] theorem beginDue_port : (beginDue p).port = p.port :=
  (beginDue_leaves p).1
@[simp] theorem beginDue_tracker : (beginDue p).tracker = p.tracker :=
  (beginDue_leaves p).2.1
@[simp] theorem beginDue_sampling : (beginDue p).sampling = p.sampling :=
  (beginDue_leaves p).2.2.1
@[simp] theorem beginDue_regulator : (beginDue p).regulator = p.regulator :=
  (beginDue_leaves p).2.2.2.1
@[simp] theorem beginDue_control : (beginDue p).control = p.control :=
  (beginDue_leaves p).2.2.2.2.1
@[simp] theorem beginDue_monitor : (beginDue p).monitor = p.monitor :=
  (beginDue_leaves p).2.2.2.2.2.1
@[simp] theorem beginDue_log : (beginDue p).log = p.log :=
  (beginDue_leaves p).2.2.2.2.2.2.1
@[simp] theorem beginDue_responder : (beginDue p).responder = p.responder :=
  (beginDue_leaves p).2.2.2.2.2.2.2.1
@[simp] theorem beginDue_loader : (beginDue p).loader = p.loader :=
  (beginDue_leaves p).2.2.2.2.2.2.2.2.1
@[simp] theorem beginDue_pins : (beginDue p).pins = p.pins :=
  (beginDue_leaves p).2.2.2.2.2.2.2.2.2

theorem beginSettle_leaves :
    (beginSettle p).sampling = p.sampling ∧
      (beginSettle p).regulator = p.regulator ∧
      (beginSettle p).responder = p.responder ∧
      (beginSettle p).loader = p.loader ∧
      (beginSettle p).pins = p.pins ∧
      (beginSettle p).control.mode = p.control.mode ∧
      (beginSettle p).control.lineStop = p.control.lineStop ∧
      (beginSettle p).control.operatorHold = p.control.operatorHold ∧
      (beginSettle p).control.fault = p.control.fault := by
  simp only [beginSettle]
  split <;> simp

@[simp] theorem beginSettle_sampling : (beginSettle p).sampling = p.sampling :=
  (beginSettle_leaves p).1
@[simp] theorem beginSettle_regulator : (beginSettle p).regulator = p.regulator :=
  (beginSettle_leaves p).2.1
@[simp] theorem beginSettle_responder : (beginSettle p).responder = p.responder :=
  (beginSettle_leaves p).2.2.1
@[simp] theorem beginSettle_loader : (beginSettle p).loader = p.loader :=
  (beginSettle_leaves p).2.2.2.1
@[simp] theorem beginSettle_pins : (beginSettle p).pins = p.pins :=
  (beginSettle_leaves p).2.2.2.2.1
@[simp] theorem beginSettle_mode : (beginSettle p).control.mode = p.control.mode :=
  (beginSettle_leaves p).2.2.2.2.2.1
@[simp] theorem beginSettle_lineStop : (beginSettle p).control.lineStop = p.control.lineStop :=
  (beginSettle_leaves p).2.2.2.2.2.2.1
@[simp] theorem beginSettle_operatorHold : (beginSettle p).control.operatorHold = p.control.operatorHold :=
  (beginSettle_leaves p).2.2.2.2.2.2.2.1
@[simp] theorem beginSettle_fault : (beginSettle p).control.fault = p.control.fault :=
  (beginSettle_leaves p).2.2.2.2.2.2.2.2

theorem endDry_leaves (aborted forced : Bool) :
    (endDry aborted forced p).port = p.port ∧
      (endDry aborted forced p).sampling = p.sampling ∧
      (endDry aborted forced p).regulator = p.regulator ∧
      (endDry aborted forced p).dose = p.dose ∧
      (endDry aborted forced p).monitor = p.monitor ∧
      (endDry aborted forced p).responder = p.responder ∧
      (endDry aborted forced p).loader = p.loader ∧
      (endDry aborted forced p).pins = p.pins ∧
      (endDry aborted forced p).control.mode = p.control.mode ∧
      (endDry aborted forced p).control.lineStop = p.control.lineStop ∧
      (endDry aborted forced p).control.operatorHold = p.control.operatorHold ∧
      (endDry aborted forced p).control.fault = p.control.fault := by
  simp only [endDry]
  repeat' split
  all_goals simp

@[simp] theorem endDry_port (aborted forced : Bool) : (endDry aborted forced p).port = p.port :=
  (endDry_leaves p aborted forced).1
@[simp] theorem endDry_sampling (aborted forced : Bool) : (endDry aborted forced p).sampling = p.sampling :=
  (endDry_leaves p aborted forced).2.1
@[simp] theorem endDry_regulator (aborted forced : Bool) : (endDry aborted forced p).regulator = p.regulator :=
  (endDry_leaves p aborted forced).2.2.1
@[simp] theorem endDry_dose (aborted forced : Bool) : (endDry aborted forced p).dose = p.dose :=
  (endDry_leaves p aborted forced).2.2.2.1
@[simp] theorem endDry_monitor (aborted forced : Bool) : (endDry aborted forced p).monitor = p.monitor :=
  (endDry_leaves p aborted forced).2.2.2.2.1
@[simp] theorem endDry_responder (aborted forced : Bool) : (endDry aborted forced p).responder = p.responder :=
  (endDry_leaves p aborted forced).2.2.2.2.2.1
@[simp] theorem endDry_loader (aborted forced : Bool) : (endDry aborted forced p).loader = p.loader :=
  (endDry_leaves p aborted forced).2.2.2.2.2.2.1
@[simp] theorem endDry_pins (aborted forced : Bool) : (endDry aborted forced p).pins = p.pins :=
  (endDry_leaves p aborted forced).2.2.2.2.2.2.2.1
@[simp] theorem endDry_mode (aborted forced : Bool) : (endDry aborted forced p).control.mode = p.control.mode :=
  (endDry_leaves p aborted forced).2.2.2.2.2.2.2.2.1
@[simp] theorem endDry_lineStop (aborted forced : Bool) : (endDry aborted forced p).control.lineStop = p.control.lineStop :=
  (endDry_leaves p aborted forced).2.2.2.2.2.2.2.2.2.1
@[simp] theorem endDry_operatorHold (aborted forced : Bool) : (endDry aborted forced p).control.operatorHold = p.control.operatorHold :=
  (endDry_leaves p aborted forced).2.2.2.2.2.2.2.2.2.2.1
@[simp] theorem endDry_fault (aborted forced : Bool) : (endDry aborted forced p).control.fault = p.control.fault :=
  (endDry_leaves p aborted forced).2.2.2.2.2.2.2.2.2.2.2

theorem concludeArrival_leaves :
    (concludeArrival p).sampling = p.sampling ∧
      (concludeArrival p).regulator = p.regulator ∧
      (concludeArrival p).responder = p.responder ∧
      (concludeArrival p).loader = p.loader ∧
      (concludeArrival p).pins = p.pins ∧
      (concludeArrival p).control.mode = p.control.mode ∧
      (concludeArrival p).control.lineStop = p.control.lineStop ∧
      (concludeArrival p).control.operatorHold = p.control.operatorHold ∧
      (concludeArrival p).control.fault = p.control.fault := by
  simp only [concludeArrival]
  repeat' split
  all_goals simp

@[simp] theorem concludeArrival_sampling : (concludeArrival p).sampling = p.sampling :=
  (concludeArrival_leaves p).1
@[simp] theorem concludeArrival_regulator : (concludeArrival p).regulator = p.regulator :=
  (concludeArrival_leaves p).2.1
@[simp] theorem concludeArrival_responder : (concludeArrival p).responder = p.responder :=
  (concludeArrival_leaves p).2.2.1
@[simp] theorem concludeArrival_loader : (concludeArrival p).loader = p.loader :=
  (concludeArrival_leaves p).2.2.2.1
@[simp] theorem concludeArrival_pins : (concludeArrival p).pins = p.pins :=
  (concludeArrival_leaves p).2.2.2.2.1
@[simp] theorem concludeArrival_mode : (concludeArrival p).control.mode = p.control.mode :=
  (concludeArrival_leaves p).2.2.2.2.2.1
@[simp] theorem concludeArrival_lineStop : (concludeArrival p).control.lineStop = p.control.lineStop :=
  (concludeArrival_leaves p).2.2.2.2.2.2.1
@[simp] theorem concludeArrival_operatorHold : (concludeArrival p).control.operatorHold = p.control.operatorHold :=
  (concludeArrival_leaves p).2.2.2.2.2.2.2.1
@[simp] theorem concludeArrival_fault : (concludeArrival p).control.fault = p.control.fault :=
  (concludeArrival_leaves p).2.2.2.2.2.2.2.2

theorem platenOpened_leaves :
    (platenOpened p).port = p.port ∧
      (platenOpened p).tracker = p.tracker ∧
      (platenOpened p).sampling = p.sampling ∧
      (platenOpened p).regulator = p.regulator ∧
      (platenOpened p).dose = p.dose ∧
      (platenOpened p).control = p.control ∧
      (platenOpened p).monitor = p.monitor ∧
      (platenOpened p).log = p.log ∧
      (platenOpened p).responder = p.responder ∧
      (platenOpened p).loader = p.loader ∧
      (platenOpened p).pins = p.pins := by
  simp [platenOpened]

@[simp] theorem platenOpened_port : (platenOpened p).port = p.port :=
  (platenOpened_leaves p).1
@[simp] theorem platenOpened_tracker : (platenOpened p).tracker = p.tracker :=
  (platenOpened_leaves p).2.1
@[simp] theorem platenOpened_sampling : (platenOpened p).sampling = p.sampling :=
  (platenOpened_leaves p).2.2.1
@[simp] theorem platenOpened_regulator : (platenOpened p).regulator = p.regulator :=
  (platenOpened_leaves p).2.2.2.1
@[simp] theorem platenOpened_dose : (platenOpened p).dose = p.dose :=
  (platenOpened_leaves p).2.2.2.2.1
@[simp] theorem platenOpened_control : (platenOpened p).control = p.control :=
  (platenOpened_leaves p).2.2.2.2.2.1
@[simp] theorem platenOpened_monitor : (platenOpened p).monitor = p.monitor :=
  (platenOpened_leaves p).2.2.2.2.2.2.1
@[simp] theorem platenOpened_log : (platenOpened p).log = p.log :=
  (platenOpened_leaves p).2.2.2.2.2.2.2.1
@[simp] theorem platenOpened_responder : (platenOpened p).responder = p.responder :=
  (platenOpened_leaves p).2.2.2.2.2.2.2.2.1
@[simp] theorem platenOpened_loader : (platenOpened p).loader = p.loader :=
  (platenOpened_leaves p).2.2.2.2.2.2.2.2.2.1
@[simp] theorem platenOpened_pins : (platenOpened p).pins = p.pins :=
  (platenOpened_leaves p).2.2.2.2.2.2.2.2.2.2

theorem applyPending_leaves :
    (applyPending p).sampling = p.sampling ∧
      (applyPending p).regulator = p.regulator ∧
      (applyPending p).sequencer = p.sequencer ∧
      (applyPending p).dose = p.dose ∧
      (applyPending p).log = p.log ∧
      (applyPending p).responder = p.responder ∧
      (applyPending p).loader = p.loader ∧
      (applyPending p).pins = p.pins ∧
      (applyPending p).control.mode = p.control.mode ∧
      (applyPending p).control.lineStop = p.control.lineStop ∧
      (applyPending p).control.operatorHold = p.control.operatorHold ∧
      (applyPending p).control.fault = p.control.fault := by
  simp only [applyPending]
  split <;> simp

@[simp] theorem applyPending_sampling : (applyPending p).sampling = p.sampling :=
  (applyPending_leaves p).1
@[simp] theorem applyPending_regulator : (applyPending p).regulator = p.regulator :=
  (applyPending_leaves p).2.1
@[simp] theorem applyPending_sequencer : (applyPending p).sequencer = p.sequencer :=
  (applyPending_leaves p).2.2.1
@[simp] theorem applyPending_dose : (applyPending p).dose = p.dose :=
  (applyPending_leaves p).2.2.2.1
@[simp] theorem applyPending_log : (applyPending p).log = p.log :=
  (applyPending_leaves p).2.2.2.2.1
@[simp] theorem applyPending_responder : (applyPending p).responder = p.responder :=
  (applyPending_leaves p).2.2.2.2.2.1
@[simp] theorem applyPending_loader : (applyPending p).loader = p.loader :=
  (applyPending_leaves p).2.2.2.2.2.2.1
@[simp] theorem applyPending_pins : (applyPending p).pins = p.pins :=
  (applyPending_leaves p).2.2.2.2.2.2.2.1
@[simp] theorem applyPending_mode : (applyPending p).control.mode = p.control.mode :=
  (applyPending_leaves p).2.2.2.2.2.2.2.2.1
@[simp] theorem applyPending_lineStop : (applyPending p).control.lineStop = p.control.lineStop :=
  (applyPending_leaves p).2.2.2.2.2.2.2.2.2.1
@[simp] theorem applyPending_operatorHold : (applyPending p).control.operatorHold = p.control.operatorHold :=
  (applyPending_leaves p).2.2.2.2.2.2.2.2.2.2.1
@[simp] theorem applyPending_fault : (applyPending p).control.fault = p.control.fault :=
  (applyPending_leaves p).2.2.2.2.2.2.2.2.2.2.2

theorem completeIfWaiting_leaves :
    (completeIfWaiting p).tracker = p.tracker ∧
      (completeIfWaiting p).sampling = p.sampling ∧
      (completeIfWaiting p).dose = p.dose ∧
      (completeIfWaiting p).log = p.log ∧
      (completeIfWaiting p).responder = p.responder ∧
      (completeIfWaiting p).pins = p.pins ∧
      (completeIfWaiting p).control.operatorHold = p.control.operatorHold ∧
      (completeIfWaiting p).control.fault = p.control.fault := by
  simp only [completeIfWaiting]
  split <;> simp

@[simp] theorem completeIfWaiting_tracker : (completeIfWaiting p).tracker = p.tracker :=
  (completeIfWaiting_leaves p).1
@[simp] theorem completeIfWaiting_sampling : (completeIfWaiting p).sampling = p.sampling :=
  (completeIfWaiting_leaves p).2.1
@[simp] theorem completeIfWaiting_dose : (completeIfWaiting p).dose = p.dose :=
  (completeIfWaiting_leaves p).2.2.1
@[simp] theorem completeIfWaiting_log : (completeIfWaiting p).log = p.log :=
  (completeIfWaiting_leaves p).2.2.2.1
@[simp] theorem completeIfWaiting_responder : (completeIfWaiting p).responder = p.responder :=
  (completeIfWaiting_leaves p).2.2.2.2.1
@[simp] theorem completeIfWaiting_pins : (completeIfWaiting p).pins = p.pins :=
  (completeIfWaiting_leaves p).2.2.2.2.2.1
@[simp] theorem completeIfWaiting_operatorHold : (completeIfWaiting p).control.operatorHold = p.control.operatorHold :=
  (completeIfWaiting_leaves p).2.2.2.2.2.2.1
@[simp] theorem completeIfWaiting_fault : (completeIfWaiting p).control.fault = p.control.fault :=
  (completeIfWaiting_leaves p).2.2.2.2.2.2.2

theorem enterOpen_leaves :
    (enterOpen p).sampling = p.sampling ∧
      (enterOpen p).responder = p.responder ∧
      (enterOpen p).pins = p.pins ∧
      (enterOpen p).control.operatorHold = p.control.operatorHold ∧
      (enterOpen p).control.fault = p.control.fault := by
  simp only [enterOpen]
  simp

@[simp] theorem enterOpen_sampling : (enterOpen p).sampling = p.sampling :=
  (enterOpen_leaves p).1
@[simp] theorem enterOpen_responder : (enterOpen p).responder = p.responder :=
  (enterOpen_leaves p).2.1
@[simp] theorem enterOpen_pins : (enterOpen p).pins = p.pins :=
  (enterOpen_leaves p).2.2.1
@[simp] theorem enterOpen_operatorHold : (enterOpen p).control.operatorHold = p.control.operatorHold :=
  (enterOpen_leaves p).2.2.2.1
@[simp] theorem enterOpen_fault : (enterOpen p).control.fault = p.control.fault :=
  (enterOpen_leaves p).2.2.2.2

theorem arrive_leaves :
    (arrive p).sampling = p.sampling ∧
      (arrive p).responder = p.responder ∧
      (arrive p).pins = p.pins ∧
      (arrive p).control.operatorHold = p.control.operatorHold ∧
      (arrive p).control.fault = p.control.fault := by
  simp only [arrive]
  split <;> simp

@[simp] theorem arrive_sampling : (arrive p).sampling = p.sampling :=
  (arrive_leaves p).1
@[simp] theorem arrive_responder : (arrive p).responder = p.responder :=
  (arrive_leaves p).2.1
@[simp] theorem arrive_pins : (arrive p).pins = p.pins :=
  (arrive_leaves p).2.2.1
@[simp] theorem arrive_operatorHold : (arrive p).control.operatorHold = p.control.operatorHold :=
  (arrive_leaves p).2.2.2.1
@[simp] theorem arrive_fault : (arrive p).control.fault = p.control.fault :=
  (arrive_leaves p).2.2.2.2

theorem cutDry_leaves (forced : Bool) :
    (cutDry forced p).port = p.port ∧
      (cutDry forced p).sampling = p.sampling ∧
      (cutDry forced p).regulator = p.regulator ∧
      (cutDry forced p).responder = p.responder ∧
      (cutDry forced p).loader = p.loader ∧
      (cutDry forced p).pins = p.pins ∧
      (cutDry forced p).control.mode = p.control.mode ∧
      (cutDry forced p).control.lineStop = p.control.lineStop ∧
      (cutDry forced p).control.operatorHold = p.control.operatorHold ∧
      (cutDry forced p).control.fault = p.control.fault := by
  simp only [cutDry]
  split <;> simp

@[simp] theorem cutDry_port (forced : Bool) : (cutDry forced p).port = p.port :=
  (cutDry_leaves p forced).1
@[simp] theorem cutDry_sampling (forced : Bool) : (cutDry forced p).sampling = p.sampling :=
  (cutDry_leaves p forced).2.1
@[simp] theorem cutDry_regulator (forced : Bool) : (cutDry forced p).regulator = p.regulator :=
  (cutDry_leaves p forced).2.2.1
@[simp] theorem cutDry_responder (forced : Bool) : (cutDry forced p).responder = p.responder :=
  (cutDry_leaves p forced).2.2.2.1
@[simp] theorem cutDry_loader (forced : Bool) : (cutDry forced p).loader = p.loader :=
  (cutDry_leaves p forced).2.2.2.2.1
@[simp] theorem cutDry_pins (forced : Bool) : (cutDry forced p).pins = p.pins :=
  (cutDry_leaves p forced).2.2.2.2.2.1
@[simp] theorem cutDry_mode (forced : Bool) : (cutDry forced p).control.mode = p.control.mode :=
  (cutDry_leaves p forced).2.2.2.2.2.2.1
@[simp] theorem cutDry_lineStop (forced : Bool) : (cutDry forced p).control.lineStop = p.control.lineStop :=
  (cutDry_leaves p forced).2.2.2.2.2.2.2.1
@[simp] theorem cutDry_operatorHold (forced : Bool) : (cutDry forced p).control.operatorHold = p.control.operatorHold :=
  (cutDry_leaves p forced).2.2.2.2.2.2.2.2.1
@[simp] theorem cutDry_fault (forced : Bool) : (cutDry forced p).control.fault = p.control.fault :=
  (cutDry_leaves p forced).2.2.2.2.2.2.2.2.2

theorem abortDry_leaves (forced : Bool) :
    (abortDry forced p).port = p.port ∧
      (abortDry forced p).sampling = p.sampling ∧
      (abortDry forced p).responder = p.responder ∧
      (abortDry forced p).loader = p.loader ∧
      (abortDry forced p).pins = p.pins ∧
      (abortDry forced p).control.lineStop = p.control.lineStop ∧
      (abortDry forced p).control.operatorHold = p.control.operatorHold ∧
      (abortDry forced p).control.fault = p.control.fault := by
  simp only [abortDry]
  split <;> simp

@[simp] theorem abortDry_port (forced : Bool) : (abortDry forced p).port = p.port :=
  (abortDry_leaves p forced).1
@[simp] theorem abortDry_sampling (forced : Bool) : (abortDry forced p).sampling = p.sampling :=
  (abortDry_leaves p forced).2.1
@[simp] theorem abortDry_responder (forced : Bool) : (abortDry forced p).responder = p.responder :=
  (abortDry_leaves p forced).2.2.1
@[simp] theorem abortDry_loader (forced : Bool) : (abortDry forced p).loader = p.loader :=
  (abortDry_leaves p forced).2.2.2.1
@[simp] theorem abortDry_pins (forced : Bool) : (abortDry forced p).pins = p.pins :=
  (abortDry_leaves p forced).2.2.2.2.1
@[simp] theorem abortDry_lineStop (forced : Bool) : (abortDry forced p).control.lineStop = p.control.lineStop :=
  (abortDry_leaves p forced).2.2.2.2.2.1
@[simp] theorem abortDry_operatorHold (forced : Bool) : (abortDry forced p).control.operatorHold = p.control.operatorHold :=
  (abortDry_leaves p forced).2.2.2.2.2.2.1
@[simp] theorem abortDry_fault (forced : Bool) : (abortDry forced p).control.fault = p.control.fault :=
  (abortDry_leaves p forced).2.2.2.2.2.2.2

theorem faultSequencer_leaves :
    (faultSequencer p).port = p.port ∧
      (faultSequencer p).sampling = p.sampling ∧
      (faultSequencer p).regulator = p.regulator ∧
      (faultSequencer p).responder = p.responder ∧
      (faultSequencer p).loader = p.loader ∧
      (faultSequencer p).pins = p.pins ∧
      (faultSequencer p).control.mode = p.control.mode ∧
      (faultSequencer p).control.lineStop = p.control.lineStop ∧
      (faultSequencer p).control.operatorHold = p.control.operatorHold ∧
      (faultSequencer p).control.fault = p.control.fault := by
  simp only [faultSequencer]
  repeat' split
  all_goals simp

@[simp] theorem faultSequencer_port : (faultSequencer p).port = p.port :=
  (faultSequencer_leaves p).1
@[simp] theorem faultSequencer_sampling : (faultSequencer p).sampling = p.sampling :=
  (faultSequencer_leaves p).2.1
@[simp] theorem faultSequencer_regulator : (faultSequencer p).regulator = p.regulator :=
  (faultSequencer_leaves p).2.2.1
@[simp] theorem faultSequencer_responder : (faultSequencer p).responder = p.responder :=
  (faultSequencer_leaves p).2.2.2.1
@[simp] theorem faultSequencer_loader : (faultSequencer p).loader = p.loader :=
  (faultSequencer_leaves p).2.2.2.2.1
@[simp] theorem faultSequencer_pins : (faultSequencer p).pins = p.pins :=
  (faultSequencer_leaves p).2.2.2.2.2.1
@[simp] theorem faultSequencer_mode : (faultSequencer p).control.mode = p.control.mode :=
  (faultSequencer_leaves p).2.2.2.2.2.2.1
@[simp] theorem faultSequencer_lineStop : (faultSequencer p).control.lineStop = p.control.lineStop :=
  (faultSequencer_leaves p).2.2.2.2.2.2.2.1
@[simp] theorem faultSequencer_operatorHold : (faultSequencer p).control.operatorHold = p.control.operatorHold :=
  (faultSequencer_leaves p).2.2.2.2.2.2.2.2.1
@[simp] theorem faultSequencer_fault : (faultSequencer p).control.fault = p.control.fault :=
  (faultSequencer_leaves p).2.2.2.2.2.2.2.2.2

theorem takeFault_leaves (code : Nat) :
    (takeFault code p).sampling = p.sampling ∧
      (takeFault code p).responder = p.responder ∧
      (takeFault code p).loader = p.loader ∧
      (takeFault code p).pins = p.pins ∧
      (takeFault code p).control.lineStop = p.control.lineStop ∧
      (takeFault code p).control.operatorHold = p.control.operatorHold := by
  simp only [takeFault]
  split <;> simp

@[simp] theorem takeFault_sampling (code : Nat) : (takeFault code p).sampling = p.sampling :=
  (takeFault_leaves p code).1
@[simp] theorem takeFault_responder (code : Nat) : (takeFault code p).responder = p.responder :=
  (takeFault_leaves p code).2.1
@[simp] theorem takeFault_loader (code : Nat) : (takeFault code p).loader = p.loader :=
  (takeFault_leaves p code).2.2.1
@[simp] theorem takeFault_pins (code : Nat) : (takeFault code p).pins = p.pins :=
  (takeFault_leaves p code).2.2.2.1
@[simp] theorem takeFault_lineStop (code : Nat) : (takeFault code p).control.lineStop = p.control.lineStop :=
  (takeFault_leaves p code).2.2.2.2.1
@[simp] theorem takeFault_operatorHold (code : Nat) : (takeFault code p).control.operatorHold = p.control.operatorHold :=
  (takeFault_leaves p code).2.2.2.2.2

theorem markHeaters_leaves :
    (markHeaters p).port = p.port ∧
      (markHeaters p).tracker = p.tracker ∧
      (markHeaters p).sampling = p.sampling ∧
      (markHeaters p).sequencer = p.sequencer ∧
      (markHeaters p).dose = p.dose ∧
      (markHeaters p).control = p.control ∧
      (markHeaters p).monitor = p.monitor ∧
      (markHeaters p).log = p.log ∧
      (markHeaters p).responder = p.responder ∧
      (markHeaters p).loader = p.loader ∧
      (markHeaters p).pins = p.pins := by
  simp [markHeaters]

@[simp] theorem markHeaters_port : (markHeaters p).port = p.port :=
  (markHeaters_leaves p).1
@[simp] theorem markHeaters_tracker : (markHeaters p).tracker = p.tracker :=
  (markHeaters_leaves p).2.1
@[simp] theorem markHeaters_sampling : (markHeaters p).sampling = p.sampling :=
  (markHeaters_leaves p).2.2.1
@[simp] theorem markHeaters_sequencer : (markHeaters p).sequencer = p.sequencer :=
  (markHeaters_leaves p).2.2.2.1
@[simp] theorem markHeaters_dose : (markHeaters p).dose = p.dose :=
  (markHeaters_leaves p).2.2.2.2.1
@[simp] theorem markHeaters_control : (markHeaters p).control = p.control :=
  (markHeaters_leaves p).2.2.2.2.2.1
@[simp] theorem markHeaters_monitor : (markHeaters p).monitor = p.monitor :=
  (markHeaters_leaves p).2.2.2.2.2.2.1
@[simp] theorem markHeaters_log : (markHeaters p).log = p.log :=
  (markHeaters_leaves p).2.2.2.2.2.2.2.1
@[simp] theorem markHeaters_responder : (markHeaters p).responder = p.responder :=
  (markHeaters_leaves p).2.2.2.2.2.2.2.2.1
@[simp] theorem markHeaters_loader : (markHeaters p).loader = p.loader :=
  (markHeaters_leaves p).2.2.2.2.2.2.2.2.2.1
@[simp] theorem markHeaters_pins : (markHeaters p).pins = p.pins :=
  (markHeaters_leaves p).2.2.2.2.2.2.2.2.2.2

end Sys2Proof.Machine
end

