-- ==== Sys2Proof/Laws/StationFrames.lean ====
section
/-! SUPPORT. What the sampling unit, the regulator and the tick leave unchanged: one lemma per operation, the conjunction of the blocks it does not touch, and its parts for simp. -/

namespace Sys2Proof.Machine

variable (p : Part)

theorem startCheck_leaves :
    (startCheck p).port = p.port ∧
      (startCheck p).tracker = p.tracker ∧
      (startCheck p).regulator = p.regulator ∧
      (startCheck p).sequencer = p.sequencer ∧
      (startCheck p).dose = p.dose ∧
      (startCheck p).control = p.control ∧
      (startCheck p).monitor = p.monitor ∧
      (startCheck p).log = p.log ∧
      (startCheck p).responder = p.responder ∧
      (startCheck p).loader = p.loader ∧
      (startCheck p).pins = p.pins := by
  simp [startCheck]

@[simp] theorem startCheck_port : (startCheck p).port = p.port :=
  (startCheck_leaves p).1
@[simp] theorem startCheck_tracker : (startCheck p).tracker = p.tracker :=
  (startCheck_leaves p).2.1
@[simp] theorem startCheck_regulator : (startCheck p).regulator = p.regulator :=
  (startCheck_leaves p).2.2.1
@[simp] theorem startCheck_sequencer : (startCheck p).sequencer = p.sequencer :=
  (startCheck_leaves p).2.2.2.1
@[simp] theorem startCheck_dose : (startCheck p).dose = p.dose :=
  (startCheck_leaves p).2.2.2.2.1
@[simp] theorem startCheck_control : (startCheck p).control = p.control :=
  (startCheck_leaves p).2.2.2.2.2.1
@[simp] theorem startCheck_monitor : (startCheck p).monitor = p.monitor :=
  (startCheck_leaves p).2.2.2.2.2.2.1
@[simp] theorem startCheck_log : (startCheck p).log = p.log :=
  (startCheck_leaves p).2.2.2.2.2.2.2.1
@[simp] theorem startCheck_responder : (startCheck p).responder = p.responder :=
  (startCheck_leaves p).2.2.2.2.2.2.2.2.1
@[simp] theorem startCheck_loader : (startCheck p).loader = p.loader :=
  (startCheck_leaves p).2.2.2.2.2.2.2.2.2.1
@[simp] theorem startCheck_pins : (startCheck p).pins = p.pins :=
  (startCheck_leaves p).2.2.2.2.2.2.2.2.2.2

theorem startAfterCheck_leaves (r : CheckResult) :
    (startAfterCheck r p).tracker = p.tracker ∧
      (startAfterCheck r p).sampling = p.sampling ∧
      (startAfterCheck r p).dose = p.dose ∧
      (startAfterCheck r p).log = p.log ∧
      (startAfterCheck r p).responder = p.responder ∧
      (startAfterCheck r p).pins = p.pins ∧
      (startAfterCheck r p).control.operatorHold = p.control.operatorHold ∧
      (startAfterCheck r p).control.fault = p.control.fault := by
  simp only [startAfterCheck]
  repeat' split
  all_goals simp

@[simp] theorem startAfterCheck_tracker (r : CheckResult) : (startAfterCheck r p).tracker = p.tracker :=
  (startAfterCheck_leaves p r).1
@[simp] theorem startAfterCheck_sampling (r : CheckResult) : (startAfterCheck r p).sampling = p.sampling :=
  (startAfterCheck_leaves p r).2.1
@[simp] theorem startAfterCheck_dose (r : CheckResult) : (startAfterCheck r p).dose = p.dose :=
  (startAfterCheck_leaves p r).2.2.1
@[simp] theorem startAfterCheck_log (r : CheckResult) : (startAfterCheck r p).log = p.log :=
  (startAfterCheck_leaves p r).2.2.2.1
@[simp] theorem startAfterCheck_responder (r : CheckResult) : (startAfterCheck r p).responder = p.responder :=
  (startAfterCheck_leaves p r).2.2.2.2.1
@[simp] theorem startAfterCheck_pins (r : CheckResult) : (startAfterCheck r p).pins = p.pins :=
  (startAfterCheck_leaves p r).2.2.2.2.2.1
@[simp] theorem startAfterCheck_operatorHold (r : CheckResult) : (startAfterCheck r p).control.operatorHold = p.control.operatorHold :=
  (startAfterCheck_leaves p r).2.2.2.2.2.2.1
@[simp] theorem startAfterCheck_fault (r : CheckResult) : (startAfterCheck r p).control.fault = p.control.fault :=
  (startAfterCheck_leaves p r).2.2.2.2.2.2.2

theorem answerCheck_leaves :
    (answerCheck p).tracker = p.tracker ∧
      (answerCheck p).sampling = p.sampling ∧
      (answerCheck p).regulator = p.regulator ∧
      (answerCheck p).sequencer = p.sequencer ∧
      (answerCheck p).dose = p.dose ∧
      (answerCheck p).log = p.log ∧
      (answerCheck p).loader = p.loader ∧
      (answerCheck p).pins = p.pins ∧
      (answerCheck p).control.mode = p.control.mode ∧
      (answerCheck p).control.lineStop = p.control.lineStop ∧
      (answerCheck p).control.operatorHold = p.control.operatorHold ∧
      (answerCheck p).control.fault = p.control.fault := by
  simp only [answerCheck]
  split <;> simp

@[simp] theorem answerCheck_tracker : (answerCheck p).tracker = p.tracker :=
  (answerCheck_leaves p).1
@[simp] theorem answerCheck_sampling : (answerCheck p).sampling = p.sampling :=
  (answerCheck_leaves p).2.1
@[simp] theorem answerCheck_regulator : (answerCheck p).regulator = p.regulator :=
  (answerCheck_leaves p).2.2.1
@[simp] theorem answerCheck_sequencer : (answerCheck p).sequencer = p.sequencer :=
  (answerCheck_leaves p).2.2.2.1
@[simp] theorem answerCheck_dose : (answerCheck p).dose = p.dose :=
  (answerCheck_leaves p).2.2.2.2.1
@[simp] theorem answerCheck_log : (answerCheck p).log = p.log :=
  (answerCheck_leaves p).2.2.2.2.2.1
@[simp] theorem answerCheck_loader : (answerCheck p).loader = p.loader :=
  (answerCheck_leaves p).2.2.2.2.2.2.1
@[simp] theorem answerCheck_pins : (answerCheck p).pins = p.pins :=
  (answerCheck_leaves p).2.2.2.2.2.2.2.1
@[simp] theorem answerCheck_mode : (answerCheck p).control.mode = p.control.mode :=
  (answerCheck_leaves p).2.2.2.2.2.2.2.2.1
@[simp] theorem answerCheck_lineStop : (answerCheck p).control.lineStop = p.control.lineStop :=
  (answerCheck_leaves p).2.2.2.2.2.2.2.2.2.1
@[simp] theorem answerCheck_operatorHold : (answerCheck p).control.operatorHold = p.control.operatorHold :=
  (answerCheck_leaves p).2.2.2.2.2.2.2.2.2.2.1
@[simp] theorem answerCheck_fault : (answerCheck p).control.fault = p.control.fault :=
  (answerCheck_leaves p).2.2.2.2.2.2.2.2.2.2.2

theorem endCheck_leaves :
    (endCheck p).pins = p.pins ∧
      (endCheck p).control.operatorHold = p.control.operatorHold := by
  simp only [endCheck]
  repeat' split
  all_goals simp

@[simp] theorem endCheck_pins : (endCheck p).pins = p.pins :=
  (endCheck_leaves p).1
@[simp] theorem endCheck_operatorHold : (endCheck p).control.operatorHold = p.control.operatorHold :=
  (endCheck_leaves p).2

theorem takeDrawNotice_leaves (h : Header) (payload : List Byte) :
    (takeDrawNotice h payload p).port = p.port ∧
      (takeDrawNotice h payload p).tracker = p.tracker ∧
      (takeDrawNotice h payload p).sampling = p.sampling ∧
      (takeDrawNotice h payload p).sequencer = p.sequencer ∧
      (takeDrawNotice h payload p).dose = p.dose ∧
      (takeDrawNotice h payload p).control = p.control ∧
      (takeDrawNotice h payload p).log = p.log ∧
      (takeDrawNotice h payload p).responder = p.responder ∧
      (takeDrawNotice h payload p).loader = p.loader ∧
      (takeDrawNotice h payload p).pins = p.pins := by
  simp only [takeDrawNotice, applyDraw]
  repeat' split
  all_goals simp

@[simp] theorem takeDrawNotice_port (h : Header) (payload : List Byte) : (takeDrawNotice h payload p).port = p.port :=
  (takeDrawNotice_leaves p h payload).1
@[simp] theorem takeDrawNotice_tracker (h : Header) (payload : List Byte) : (takeDrawNotice h payload p).tracker = p.tracker :=
  (takeDrawNotice_leaves p h payload).2.1
@[simp] theorem takeDrawNotice_sampling (h : Header) (payload : List Byte) : (takeDrawNotice h payload p).sampling = p.sampling :=
  (takeDrawNotice_leaves p h payload).2.2.1
@[simp] theorem takeDrawNotice_sequencer (h : Header) (payload : List Byte) : (takeDrawNotice h payload p).sequencer = p.sequencer :=
  (takeDrawNotice_leaves p h payload).2.2.2.1
@[simp] theorem takeDrawNotice_dose (h : Header) (payload : List Byte) : (takeDrawNotice h payload p).dose = p.dose :=
  (takeDrawNotice_leaves p h payload).2.2.2.2.1
@[simp] theorem takeDrawNotice_control (h : Header) (payload : List Byte) : (takeDrawNotice h payload p).control = p.control :=
  (takeDrawNotice_leaves p h payload).2.2.2.2.2.1
@[simp] theorem takeDrawNotice_log (h : Header) (payload : List Byte) : (takeDrawNotice h payload p).log = p.log :=
  (takeDrawNotice_leaves p h payload).2.2.2.2.2.2.1
@[simp] theorem takeDrawNotice_responder (h : Header) (payload : List Byte) : (takeDrawNotice h payload p).responder = p.responder :=
  (takeDrawNotice_leaves p h payload).2.2.2.2.2.2.2.1
@[simp] theorem takeDrawNotice_loader (h : Header) (payload : List Byte) : (takeDrawNotice h payload p).loader = p.loader :=
  (takeDrawNotice_leaves p h payload).2.2.2.2.2.2.2.2.1
@[simp] theorem takeDrawNotice_pins (h : Header) (payload : List Byte) : (takeDrawNotice h payload p).pins = p.pins :=
  (takeDrawNotice_leaves p h payload).2.2.2.2.2.2.2.2.2

theorem computeDuties_leaves :
    (computeDuties p).port = p.port ∧
      (computeDuties p).tracker = p.tracker ∧
      (computeDuties p).sampling = p.sampling ∧
      (computeDuties p).sequencer = p.sequencer ∧
      (computeDuties p).dose = p.dose ∧
      (computeDuties p).control = p.control ∧
      (computeDuties p).monitor = p.monitor ∧
      (computeDuties p).log = p.log ∧
      (computeDuties p).responder = p.responder ∧
      (computeDuties p).loader = p.loader ∧
      (computeDuties p).pins = p.pins := by
  simp [computeDuties]

@[simp] theorem computeDuties_port : (computeDuties p).port = p.port :=
  (computeDuties_leaves p).1
@[simp] theorem computeDuties_tracker : (computeDuties p).tracker = p.tracker :=
  (computeDuties_leaves p).2.1
@[simp] theorem computeDuties_sampling : (computeDuties p).sampling = p.sampling :=
  (computeDuties_leaves p).2.2.1
@[simp] theorem computeDuties_sequencer : (computeDuties p).sequencer = p.sequencer :=
  (computeDuties_leaves p).2.2.2.1
@[simp] theorem computeDuties_dose : (computeDuties p).dose = p.dose :=
  (computeDuties_leaves p).2.2.2.2.1
@[simp] theorem computeDuties_control : (computeDuties p).control = p.control :=
  (computeDuties_leaves p).2.2.2.2.2.1
@[simp] theorem computeDuties_monitor : (computeDuties p).monitor = p.monitor :=
  (computeDuties_leaves p).2.2.2.2.2.2.1
@[simp] theorem computeDuties_log : (computeDuties p).log = p.log :=
  (computeDuties_leaves p).2.2.2.2.2.2.2.1
@[simp] theorem computeDuties_responder : (computeDuties p).responder = p.responder :=
  (computeDuties_leaves p).2.2.2.2.2.2.2.2.1
@[simp] theorem computeDuties_loader : (computeDuties p).loader = p.loader :=
  (computeDuties_leaves p).2.2.2.2.2.2.2.2.2.1
@[simp] theorem computeDuties_pins : (computeDuties p).pins = p.pins :=
  (computeDuties_leaves p).2.2.2.2.2.2.2.2.2.2

theorem computeScale_leaves :
    (computeScale p).port = p.port ∧
      (computeScale p).tracker = p.tracker ∧
      (computeScale p).sampling = p.sampling ∧
      (computeScale p).sequencer = p.sequencer ∧
      (computeScale p).dose = p.dose ∧
      (computeScale p).control = p.control ∧
      (computeScale p).monitor = p.monitor ∧
      (computeScale p).log = p.log ∧
      (computeScale p).responder = p.responder ∧
      (computeScale p).loader = p.loader ∧
      (computeScale p).pins = p.pins := by
  simp [computeScale]

@[simp] theorem computeScale_port : (computeScale p).port = p.port :=
  (computeScale_leaves p).1
@[simp] theorem computeScale_tracker : (computeScale p).tracker = p.tracker :=
  (computeScale_leaves p).2.1
@[simp] theorem computeScale_sampling : (computeScale p).sampling = p.sampling :=
  (computeScale_leaves p).2.2.1
@[simp] theorem computeScale_sequencer : (computeScale p).sequencer = p.sequencer :=
  (computeScale_leaves p).2.2.2.1
@[simp] theorem computeScale_dose : (computeScale p).dose = p.dose :=
  (computeScale_leaves p).2.2.2.2.1
@[simp] theorem computeScale_control : (computeScale p).control = p.control :=
  (computeScale_leaves p).2.2.2.2.2.1
@[simp] theorem computeScale_monitor : (computeScale p).monitor = p.monitor :=
  (computeScale_leaves p).2.2.2.2.2.2.1
@[simp] theorem computeScale_log : (computeScale p).log = p.log :=
  (computeScale_leaves p).2.2.2.2.2.2.2.1
@[simp] theorem computeScale_responder : (computeScale p).responder = p.responder :=
  (computeScale_leaves p).2.2.2.2.2.2.2.2.1
@[simp] theorem computeScale_loader : (computeScale p).loader = p.loader :=
  (computeScale_leaves p).2.2.2.2.2.2.2.2.2.1
@[simp] theorem computeScale_pins : (computeScale p).pins = p.pins :=
  (computeScale_leaves p).2.2.2.2.2.2.2.2.2.2

theorem sendDraw_leaves :
    (sendDraw p).tracker = p.tracker ∧
      (sendDraw p).sampling = p.sampling ∧
      (sendDraw p).regulator = p.regulator ∧
      (sendDraw p).sequencer = p.sequencer ∧
      (sendDraw p).dose = p.dose ∧
      (sendDraw p).log = p.log ∧
      (sendDraw p).responder = p.responder ∧
      (sendDraw p).loader = p.loader ∧
      (sendDraw p).pins = p.pins ∧
      (sendDraw p).control.mode = p.control.mode ∧
      (sendDraw p).control.lineStop = p.control.lineStop ∧
      (sendDraw p).control.operatorHold = p.control.operatorHold ∧
      (sendDraw p).control.fault = p.control.fault := by
  simp only [sendDraw]
  split <;> simp

@[simp] theorem sendDraw_tracker : (sendDraw p).tracker = p.tracker :=
  (sendDraw_leaves p).1
@[simp] theorem sendDraw_sampling : (sendDraw p).sampling = p.sampling :=
  (sendDraw_leaves p).2.1
@[simp] theorem sendDraw_regulator : (sendDraw p).regulator = p.regulator :=
  (sendDraw_leaves p).2.2.1
@[simp] theorem sendDraw_sequencer : (sendDraw p).sequencer = p.sequencer :=
  (sendDraw_leaves p).2.2.2.1
@[simp] theorem sendDraw_dose : (sendDraw p).dose = p.dose :=
  (sendDraw_leaves p).2.2.2.2.1
@[simp] theorem sendDraw_log : (sendDraw p).log = p.log :=
  (sendDraw_leaves p).2.2.2.2.2.1
@[simp] theorem sendDraw_responder : (sendDraw p).responder = p.responder :=
  (sendDraw_leaves p).2.2.2.2.2.2.1
@[simp] theorem sendDraw_loader : (sendDraw p).loader = p.loader :=
  (sendDraw_leaves p).2.2.2.2.2.2.2.1
@[simp] theorem sendDraw_pins : (sendDraw p).pins = p.pins :=
  (sendDraw_leaves p).2.2.2.2.2.2.2.2.1
@[simp] theorem sendDraw_mode : (sendDraw p).control.mode = p.control.mode :=
  (sendDraw_leaves p).2.2.2.2.2.2.2.2.2.1
@[simp] theorem sendDraw_lineStop : (sendDraw p).control.lineStop = p.control.lineStop :=
  (sendDraw_leaves p).2.2.2.2.2.2.2.2.2.2.1
@[simp] theorem sendDraw_operatorHold : (sendDraw p).control.operatorHold = p.control.operatorHold :=
  (sendDraw_leaves p).2.2.2.2.2.2.2.2.2.2.2.1
@[simp] theorem sendDraw_fault : (sendDraw p).control.fault = p.control.fault :=
  (sendDraw_leaves p).2.2.2.2.2.2.2.2.2.2.2.2

theorem lowerListen_leaves :
    (lowerListen p).port = p.port ∧
      (lowerListen p).tracker = p.tracker ∧
      (lowerListen p).sampling = p.sampling ∧
      (lowerListen p).sequencer = p.sequencer ∧
      (lowerListen p).dose = p.dose ∧
      (lowerListen p).control = p.control ∧
      (lowerListen p).monitor = p.monitor ∧
      (lowerListen p).log = p.log ∧
      (lowerListen p).responder = p.responder ∧
      (lowerListen p).loader = p.loader ∧
      (lowerListen p).pins = p.pins := by
  simp [lowerListen]

@[simp] theorem lowerListen_port : (lowerListen p).port = p.port :=
  (lowerListen_leaves p).1
@[simp] theorem lowerListen_tracker : (lowerListen p).tracker = p.tracker :=
  (lowerListen_leaves p).2.1
@[simp] theorem lowerListen_sampling : (lowerListen p).sampling = p.sampling :=
  (lowerListen_leaves p).2.2.1
@[simp] theorem lowerListen_sequencer : (lowerListen p).sequencer = p.sequencer :=
  (lowerListen_leaves p).2.2.2.1
@[simp] theorem lowerListen_dose : (lowerListen p).dose = p.dose :=
  (lowerListen_leaves p).2.2.2.2.1
@[simp] theorem lowerListen_control : (lowerListen p).control = p.control :=
  (lowerListen_leaves p).2.2.2.2.2.1
@[simp] theorem lowerListen_monitor : (lowerListen p).monitor = p.monitor :=
  (lowerListen_leaves p).2.2.2.2.2.2.1
@[simp] theorem lowerListen_log : (lowerListen p).log = p.log :=
  (lowerListen_leaves p).2.2.2.2.2.2.2.1
@[simp] theorem lowerListen_responder : (lowerListen p).responder = p.responder :=
  (lowerListen_leaves p).2.2.2.2.2.2.2.2.1
@[simp] theorem lowerListen_loader : (lowerListen p).loader = p.loader :=
  (lowerListen_leaves p).2.2.2.2.2.2.2.2.2.1
@[simp] theorem lowerListen_pins : (lowerListen p).pins = p.pins :=
  (lowerListen_leaves p).2.2.2.2.2.2.2.2.2.2

theorem endBudget_leaves :
    (endBudget p).tracker = p.tracker ∧
      (endBudget p).sampling = p.sampling ∧
      (endBudget p).sequencer = p.sequencer ∧
      (endBudget p).dose = p.dose ∧
      (endBudget p).log = p.log ∧
      (endBudget p).responder = p.responder ∧
      (endBudget p).loader = p.loader ∧
      (endBudget p).pins = p.pins ∧
      (endBudget p).control.mode = p.control.mode ∧
      (endBudget p).control.lineStop = p.control.lineStop ∧
      (endBudget p).control.operatorHold = p.control.operatorHold ∧
      (endBudget p).control.fault = p.control.fault := by
  simp [endBudget]

@[simp] theorem endBudget_tracker : (endBudget p).tracker = p.tracker :=
  (endBudget_leaves p).1
@[simp] theorem endBudget_sampling : (endBudget p).sampling = p.sampling :=
  (endBudget_leaves p).2.1
@[simp] theorem endBudget_sequencer : (endBudget p).sequencer = p.sequencer :=
  (endBudget_leaves p).2.2.1
@[simp] theorem endBudget_dose : (endBudget p).dose = p.dose :=
  (endBudget_leaves p).2.2.2.1
@[simp] theorem endBudget_log : (endBudget p).log = p.log :=
  (endBudget_leaves p).2.2.2.2.1
@[simp] theorem endBudget_responder : (endBudget p).responder = p.responder :=
  (endBudget_leaves p).2.2.2.2.2.1
@[simp] theorem endBudget_loader : (endBudget p).loader = p.loader :=
  (endBudget_leaves p).2.2.2.2.2.2.1
@[simp] theorem endBudget_pins : (endBudget p).pins = p.pins :=
  (endBudget_leaves p).2.2.2.2.2.2.2.1
@[simp] theorem endBudget_mode : (endBudget p).control.mode = p.control.mode :=
  (endBudget_leaves p).2.2.2.2.2.2.2.2.1
@[simp] theorem endBudget_lineStop : (endBudget p).control.lineStop = p.control.lineStop :=
  (endBudget_leaves p).2.2.2.2.2.2.2.2.2.1
@[simp] theorem endBudget_operatorHold : (endBudget p).control.operatorHold = p.control.operatorHold :=
  (endBudget_leaves p).2.2.2.2.2.2.2.2.2.2.1
@[simp] theorem endBudget_fault : (endBudget p).control.fault = p.control.fault :=
  (endBudget_leaves p).2.2.2.2.2.2.2.2.2.2.2

theorem beginPeriod_leaves :
    (beginPeriod p).port = p.port ∧
      (beginPeriod p).tracker = p.tracker ∧
      (beginPeriod p).sampling = p.sampling ∧
      (beginPeriod p).sequencer = p.sequencer ∧
      (beginPeriod p).dose = p.dose ∧
      (beginPeriod p).control = p.control ∧
      (beginPeriod p).monitor = p.monitor ∧
      (beginPeriod p).log = p.log ∧
      (beginPeriod p).responder = p.responder ∧
      (beginPeriod p).loader = p.loader ∧
      (beginPeriod p).pins = p.pins := by
  simp [beginPeriod]

@[simp] theorem beginPeriod_port : (beginPeriod p).port = p.port :=
  (beginPeriod_leaves p).1
@[simp] theorem beginPeriod_tracker : (beginPeriod p).tracker = p.tracker :=
  (beginPeriod_leaves p).2.1
@[simp] theorem beginPeriod_sampling : (beginPeriod p).sampling = p.sampling :=
  (beginPeriod_leaves p).2.2.1
@[simp] theorem beginPeriod_sequencer : (beginPeriod p).sequencer = p.sequencer :=
  (beginPeriod_leaves p).2.2.2.1
@[simp] theorem beginPeriod_dose : (beginPeriod p).dose = p.dose :=
  (beginPeriod_leaves p).2.2.2.2.1
@[simp] theorem beginPeriod_control : (beginPeriod p).control = p.control :=
  (beginPeriod_leaves p).2.2.2.2.2.1
@[simp] theorem beginPeriod_monitor : (beginPeriod p).monitor = p.monitor :=
  (beginPeriod_leaves p).2.2.2.2.2.2.1
@[simp] theorem beginPeriod_log : (beginPeriod p).log = p.log :=
  (beginPeriod_leaves p).2.2.2.2.2.2.2.1
@[simp] theorem beginPeriod_responder : (beginPeriod p).responder = p.responder :=
  (beginPeriod_leaves p).2.2.2.2.2.2.2.2.1
@[simp] theorem beginPeriod_loader : (beginPeriod p).loader = p.loader :=
  (beginPeriod_leaves p).2.2.2.2.2.2.2.2.2.1
@[simp] theorem beginPeriod_pins : (beginPeriod p).pins = p.pins :=
  (beginPeriod_leaves p).2.2.2.2.2.2.2.2.2.2

theorem cutHeaters_leaves :
    (cutHeaters p).port = p.port ∧
      (cutHeaters p).tracker = p.tracker ∧
      (cutHeaters p).sampling = p.sampling ∧
      (cutHeaters p).sequencer = p.sequencer ∧
      (cutHeaters p).dose = p.dose ∧
      (cutHeaters p).control = p.control ∧
      (cutHeaters p).monitor = p.monitor ∧
      (cutHeaters p).log = p.log ∧
      (cutHeaters p).responder = p.responder ∧
      (cutHeaters p).loader = p.loader ∧
      (cutHeaters p).pins = p.pins := by
  simp [cutHeaters]

@[simp] theorem cutHeaters_port : (cutHeaters p).port = p.port :=
  (cutHeaters_leaves p).1
@[simp] theorem cutHeaters_tracker : (cutHeaters p).tracker = p.tracker :=
  (cutHeaters_leaves p).2.1
@[simp] theorem cutHeaters_sampling : (cutHeaters p).sampling = p.sampling :=
  (cutHeaters_leaves p).2.2.1
@[simp] theorem cutHeaters_sequencer : (cutHeaters p).sequencer = p.sequencer :=
  (cutHeaters_leaves p).2.2.2.1
@[simp] theorem cutHeaters_dose : (cutHeaters p).dose = p.dose :=
  (cutHeaters_leaves p).2.2.2.2.1
@[simp] theorem cutHeaters_control : (cutHeaters p).control = p.control :=
  (cutHeaters_leaves p).2.2.2.2.2.1
@[simp] theorem cutHeaters_monitor : (cutHeaters p).monitor = p.monitor :=
  (cutHeaters_leaves p).2.2.2.2.2.2.1
@[simp] theorem cutHeaters_log : (cutHeaters p).log = p.log :=
  (cutHeaters_leaves p).2.2.2.2.2.2.2.1
@[simp] theorem cutHeaters_responder : (cutHeaters p).responder = p.responder :=
  (cutHeaters_leaves p).2.2.2.2.2.2.2.2.1
@[simp] theorem cutHeaters_loader : (cutHeaters p).loader = p.loader :=
  (cutHeaters_leaves p).2.2.2.2.2.2.2.2.2.1
@[simp] theorem cutHeaters_pins : (cutHeaters p).pins = p.pins :=
  (cutHeaters_leaves p).2.2.2.2.2.2.2.2.2.2

theorem advanceIdle_leaves :
    (advanceIdle p).port = p.port ∧
      (advanceIdle p).tracker = p.tracker ∧
      (advanceIdle p).sampling = p.sampling ∧
      (advanceIdle p).sequencer = p.sequencer ∧
      (advanceIdle p).dose = p.dose ∧
      (advanceIdle p).control = p.control ∧
      (advanceIdle p).monitor = p.monitor ∧
      (advanceIdle p).log = p.log ∧
      (advanceIdle p).responder = p.responder ∧
      (advanceIdle p).loader = p.loader ∧
      (advanceIdle p).pins = p.pins := by
  simp only [advanceIdle]
  split <;> simp

@[simp] theorem advanceIdle_port : (advanceIdle p).port = p.port :=
  (advanceIdle_leaves p).1
@[simp] theorem advanceIdle_tracker : (advanceIdle p).tracker = p.tracker :=
  (advanceIdle_leaves p).2.1
@[simp] theorem advanceIdle_sampling : (advanceIdle p).sampling = p.sampling :=
  (advanceIdle_leaves p).2.2.1
@[simp] theorem advanceIdle_sequencer : (advanceIdle p).sequencer = p.sequencer :=
  (advanceIdle_leaves p).2.2.2.1
@[simp] theorem advanceIdle_dose : (advanceIdle p).dose = p.dose :=
  (advanceIdle_leaves p).2.2.2.2.1
@[simp] theorem advanceIdle_control : (advanceIdle p).control = p.control :=
  (advanceIdle_leaves p).2.2.2.2.2.1
@[simp] theorem advanceIdle_monitor : (advanceIdle p).monitor = p.monitor :=
  (advanceIdle_leaves p).2.2.2.2.2.2.1
@[simp] theorem advanceIdle_log : (advanceIdle p).log = p.log :=
  (advanceIdle_leaves p).2.2.2.2.2.2.2.1
@[simp] theorem advanceIdle_responder : (advanceIdle p).responder = p.responder :=
  (advanceIdle_leaves p).2.2.2.2.2.2.2.2.1
@[simp] theorem advanceIdle_loader : (advanceIdle p).loader = p.loader :=
  (advanceIdle_leaves p).2.2.2.2.2.2.2.2.2.1
@[simp] theorem advanceIdle_pins : (advanceIdle p).pins = p.pins :=
  (advanceIdle_leaves p).2.2.2.2.2.2.2.2.2.2

theorem setIdle_leaves :
    (setIdle p).port = p.port ∧
      (setIdle p).tracker = p.tracker ∧
      (setIdle p).sampling = p.sampling ∧
      (setIdle p).sequencer = p.sequencer ∧
      (setIdle p).dose = p.dose ∧
      (setIdle p).control = p.control ∧
      (setIdle p).monitor = p.monitor ∧
      (setIdle p).log = p.log ∧
      (setIdle p).responder = p.responder ∧
      (setIdle p).loader = p.loader ∧
      (setIdle p).pins = p.pins := by
  simp [setIdle]

@[simp] theorem setIdle_port : (setIdle p).port = p.port :=
  (setIdle_leaves p).1
@[simp] theorem setIdle_tracker : (setIdle p).tracker = p.tracker :=
  (setIdle_leaves p).2.1
@[simp] theorem setIdle_sampling : (setIdle p).sampling = p.sampling :=
  (setIdle_leaves p).2.2.1
@[simp] theorem setIdle_sequencer : (setIdle p).sequencer = p.sequencer :=
  (setIdle_leaves p).2.2.2.1
@[simp] theorem setIdle_dose : (setIdle p).dose = p.dose :=
  (setIdle_leaves p).2.2.2.2.1
@[simp] theorem setIdle_control : (setIdle p).control = p.control :=
  (setIdle_leaves p).2.2.2.2.2.1
@[simp] theorem setIdle_monitor : (setIdle p).monitor = p.monitor :=
  (setIdle_leaves p).2.2.2.2.2.2.1
@[simp] theorem setIdle_log : (setIdle p).log = p.log :=
  (setIdle_leaves p).2.2.2.2.2.2.2.1
@[simp] theorem setIdle_responder : (setIdle p).responder = p.responder :=
  (setIdle_leaves p).2.2.2.2.2.2.2.2.1
@[simp] theorem setIdle_loader : (setIdle p).loader = p.loader :=
  (setIdle_leaves p).2.2.2.2.2.2.2.2.2.1
@[simp] theorem setIdle_pins : (setIdle p).pins = p.pins :=
  (setIdle_leaves p).2.2.2.2.2.2.2.2.2.2

theorem restartIdle_leaves :
    (restartIdle p).port = p.port ∧
      (restartIdle p).tracker = p.tracker ∧
      (restartIdle p).sampling = p.sampling ∧
      (restartIdle p).sequencer = p.sequencer ∧
      (restartIdle p).dose = p.dose ∧
      (restartIdle p).control = p.control ∧
      (restartIdle p).monitor = p.monitor ∧
      (restartIdle p).log = p.log ∧
      (restartIdle p).responder = p.responder ∧
      (restartIdle p).loader = p.loader ∧
      (restartIdle p).pins = p.pins := by
  simp [restartIdle]

@[simp] theorem restartIdle_port : (restartIdle p).port = p.port :=
  (restartIdle_leaves p).1
@[simp] theorem restartIdle_tracker : (restartIdle p).tracker = p.tracker :=
  (restartIdle_leaves p).2.1
@[simp] theorem restartIdle_sampling : (restartIdle p).sampling = p.sampling :=
  (restartIdle_leaves p).2.2.1
@[simp] theorem restartIdle_sequencer : (restartIdle p).sequencer = p.sequencer :=
  (restartIdle_leaves p).2.2.2.1
@[simp] theorem restartIdle_dose : (restartIdle p).dose = p.dose :=
  (restartIdle_leaves p).2.2.2.2.1
@[simp] theorem restartIdle_control : (restartIdle p).control = p.control :=
  (restartIdle_leaves p).2.2.2.2.2.1
@[simp] theorem restartIdle_monitor : (restartIdle p).monitor = p.monitor :=
  (restartIdle_leaves p).2.2.2.2.2.2.1
@[simp] theorem restartIdle_log : (restartIdle p).log = p.log :=
  (restartIdle_leaves p).2.2.2.2.2.2.2.1
@[simp] theorem restartIdle_responder : (restartIdle p).responder = p.responder :=
  (restartIdle_leaves p).2.2.2.2.2.2.2.2.1
@[simp] theorem restartIdle_loader : (restartIdle p).loader = p.loader :=
  (restartIdle_leaves p).2.2.2.2.2.2.2.2.2.1
@[simp] theorem restartIdle_pins : (restartIdle p).pins = p.pins :=
  (restartIdle_leaves p).2.2.2.2.2.2.2.2.2.2

theorem dwellSample_leaves :
    (dwellSample p).port = p.port ∧
      (dwellSample p).tracker = p.tracker ∧
      (dwellSample p).sampling = p.sampling ∧
      (dwellSample p).regulator = p.regulator ∧
      (dwellSample p).sequencer = p.sequencer ∧
      (dwellSample p).control = p.control ∧
      (dwellSample p).monitor = p.monitor ∧
      (dwellSample p).log = p.log ∧
      (dwellSample p).responder = p.responder ∧
      (dwellSample p).loader = p.loader ∧
      (dwellSample p).pins = p.pins := by
  simp [dwellSample]

@[simp] theorem dwellSample_port : (dwellSample p).port = p.port :=
  (dwellSample_leaves p).1
@[simp] theorem dwellSample_tracker : (dwellSample p).tracker = p.tracker :=
  (dwellSample_leaves p).2.1
@[simp] theorem dwellSample_sampling : (dwellSample p).sampling = p.sampling :=
  (dwellSample_leaves p).2.2.1
@[simp] theorem dwellSample_regulator : (dwellSample p).regulator = p.regulator :=
  (dwellSample_leaves p).2.2.2.1
@[simp] theorem dwellSample_sequencer : (dwellSample p).sequencer = p.sequencer :=
  (dwellSample_leaves p).2.2.2.2.1
@[simp] theorem dwellSample_control : (dwellSample p).control = p.control :=
  (dwellSample_leaves p).2.2.2.2.2.1
@[simp] theorem dwellSample_monitor : (dwellSample p).monitor = p.monitor :=
  (dwellSample_leaves p).2.2.2.2.2.2.1
@[simp] theorem dwellSample_log : (dwellSample p).log = p.log :=
  (dwellSample_leaves p).2.2.2.2.2.2.2.1
@[simp] theorem dwellSample_responder : (dwellSample p).responder = p.responder :=
  (dwellSample_leaves p).2.2.2.2.2.2.2.2.1
@[simp] theorem dwellSample_loader : (dwellSample p).loader = p.loader :=
  (dwellSample_leaves p).2.2.2.2.2.2.2.2.2.1
@[simp] theorem dwellSample_pins : (dwellSample p).pins = p.pins :=
  (dwellSample_leaves p).2.2.2.2.2.2.2.2.2.2

theorem openIfEnded_leaves :
    (openIfEnded p).port = p.port ∧
      (openIfEnded p).tracker = p.tracker ∧
      (openIfEnded p).sampling = p.sampling ∧
      (openIfEnded p).regulator = p.regulator ∧
      (openIfEnded p).control = p.control ∧
      (openIfEnded p).log = p.log ∧
      (openIfEnded p).responder = p.responder ∧
      (openIfEnded p).loader = p.loader ∧
      (openIfEnded p).pins = p.pins := by
  simp only [openIfEnded]
  split <;> simp

@[simp] theorem openIfEnded_port : (openIfEnded p).port = p.port :=
  (openIfEnded_leaves p).1
@[simp] theorem openIfEnded_tracker : (openIfEnded p).tracker = p.tracker :=
  (openIfEnded_leaves p).2.1
@[simp] theorem openIfEnded_sampling : (openIfEnded p).sampling = p.sampling :=
  (openIfEnded_leaves p).2.2.1
@[simp] theorem openIfEnded_regulator : (openIfEnded p).regulator = p.regulator :=
  (openIfEnded_leaves p).2.2.2.1
@[simp] theorem openIfEnded_control : (openIfEnded p).control = p.control :=
  (openIfEnded_leaves p).2.2.2.2.1
@[simp] theorem openIfEnded_log : (openIfEnded p).log = p.log :=
  (openIfEnded_leaves p).2.2.2.2.2.1
@[simp] theorem openIfEnded_responder : (openIfEnded p).responder = p.responder :=
  (openIfEnded_leaves p).2.2.2.2.2.2.1
@[simp] theorem openIfEnded_loader : (openIfEnded p).loader = p.loader :=
  (openIfEnded_leaves p).2.2.2.2.2.2.2.1
@[simp] theorem openIfEnded_pins : (openIfEnded p).pins = p.pins :=
  (openIfEnded_leaves p).2.2.2.2.2.2.2.2

theorem enterDwell_leaves :
    (enterDwell p).port = p.port ∧
      (enterDwell p).tracker = p.tracker ∧
      (enterDwell p).sampling = p.sampling ∧
      (enterDwell p).regulator = p.regulator ∧
      (enterDwell p).control = p.control ∧
      (enterDwell p).monitor = p.monitor ∧
      (enterDwell p).log = p.log ∧
      (enterDwell p).responder = p.responder ∧
      (enterDwell p).loader = p.loader ∧
      (enterDwell p).pins = p.pins := by
  simp [enterDwell]

@[simp] theorem enterDwell_port : (enterDwell p).port = p.port :=
  (enterDwell_leaves p).1
@[simp] theorem enterDwell_tracker : (enterDwell p).tracker = p.tracker :=
  (enterDwell_leaves p).2.1
@[simp] theorem enterDwell_sampling : (enterDwell p).sampling = p.sampling :=
  (enterDwell_leaves p).2.2.1
@[simp] theorem enterDwell_regulator : (enterDwell p).regulator = p.regulator :=
  (enterDwell_leaves p).2.2.2.1
@[simp] theorem enterDwell_control : (enterDwell p).control = p.control :=
  (enterDwell_leaves p).2.2.2.2.1
@[simp] theorem enterDwell_monitor : (enterDwell p).monitor = p.monitor :=
  (enterDwell_leaves p).2.2.2.2.2.1
@[simp] theorem enterDwell_log : (enterDwell p).log = p.log :=
  (enterDwell_leaves p).2.2.2.2.2.2.1
@[simp] theorem enterDwell_responder : (enterDwell p).responder = p.responder :=
  (enterDwell_leaves p).2.2.2.2.2.2.2.1
@[simp] theorem enterDwell_loader : (enterDwell p).loader = p.loader :=
  (enterDwell_leaves p).2.2.2.2.2.2.2.2.1
@[simp] theorem enterDwell_pins : (enterDwell p).pins = p.pins :=
  (enterDwell_leaves p).2.2.2.2.2.2.2.2.2

theorem failClosing_leaves :
    (failClosing p).port = p.port ∧
      (failClosing p).tracker = p.tracker ∧
      (failClosing p).sampling = p.sampling ∧
      (failClosing p).regulator = p.regulator ∧
      (failClosing p).sequencer = p.sequencer ∧
      (failClosing p).control = p.control ∧
      (failClosing p).monitor = p.monitor ∧
      (failClosing p).log = p.log ∧
      (failClosing p).responder = p.responder ∧
      (failClosing p).loader = p.loader ∧
      (failClosing p).pins = p.pins := by
  simp [failClosing]

@[simp] theorem failClosing_port : (failClosing p).port = p.port :=
  (failClosing_leaves p).1
@[simp] theorem failClosing_tracker : (failClosing p).tracker = p.tracker :=
  (failClosing_leaves p).2.1
@[simp] theorem failClosing_sampling : (failClosing p).sampling = p.sampling :=
  (failClosing_leaves p).2.2.1
@[simp] theorem failClosing_regulator : (failClosing p).regulator = p.regulator :=
  (failClosing_leaves p).2.2.2.1
@[simp] theorem failClosing_sequencer : (failClosing p).sequencer = p.sequencer :=
  (failClosing_leaves p).2.2.2.2.1
@[simp] theorem failClosing_control : (failClosing p).control = p.control :=
  (failClosing_leaves p).2.2.2.2.2.1
@[simp] theorem failClosing_monitor : (failClosing p).monitor = p.monitor :=
  (failClosing_leaves p).2.2.2.2.2.2.1
@[simp] theorem failClosing_log : (failClosing p).log = p.log :=
  (failClosing_leaves p).2.2.2.2.2.2.2.1
@[simp] theorem failClosing_responder : (failClosing p).responder = p.responder :=
  (failClosing_leaves p).2.2.2.2.2.2.2.2.1
@[simp] theorem failClosing_loader : (failClosing p).loader = p.loader :=
  (failClosing_leaves p).2.2.2.2.2.2.2.2.2.1
@[simp] theorem failClosing_pins : (failClosing p).pins = p.pins :=
  (failClosing_leaves p).2.2.2.2.2.2.2.2.2.2

theorem cycleTick_leaves :
    (cycleTick p).port = p.port ∧
      (cycleTick p).tracker = p.tracker ∧
      (cycleTick p).sampling = p.sampling ∧
      (cycleTick p).regulator = p.regulator ∧
      (cycleTick p).control = p.control ∧
      (cycleTick p).log = p.log ∧
      (cycleTick p).responder = p.responder ∧
      (cycleTick p).loader = p.loader ∧
      (cycleTick p).pins = p.pins := by
  simp only [cycleTick]
  repeat' split
  all_goals simp

@[simp] theorem cycleTick_port : (cycleTick p).port = p.port :=
  (cycleTick_leaves p).1
@[simp] theorem cycleTick_tracker : (cycleTick p).tracker = p.tracker :=
  (cycleTick_leaves p).2.1
@[simp] theorem cycleTick_sampling : (cycleTick p).sampling = p.sampling :=
  (cycleTick_leaves p).2.2.1
@[simp] theorem cycleTick_regulator : (cycleTick p).regulator = p.regulator :=
  (cycleTick_leaves p).2.2.2.1
@[simp] theorem cycleTick_control : (cycleTick p).control = p.control :=
  (cycleTick_leaves p).2.2.2.2.1
@[simp] theorem cycleTick_log : (cycleTick p).log = p.log :=
  (cycleTick_leaves p).2.2.2.2.2.1
@[simp] theorem cycleTick_responder : (cycleTick p).responder = p.responder :=
  (cycleTick_leaves p).2.2.2.2.2.2.1
@[simp] theorem cycleTick_loader : (cycleTick p).loader = p.loader :=
  (cycleTick_leaves p).2.2.2.2.2.2.2.1
@[simp] theorem cycleTick_pins : (cycleTick p).pins = p.pins :=
  (cycleTick_leaves p).2.2.2.2.2.2.2.2

theorem levelAlarms_leaves :
    (levelAlarms p).port = p.port ∧
      (levelAlarms p).tracker = p.tracker ∧
      (levelAlarms p).sampling = p.sampling ∧
      (levelAlarms p).regulator = p.regulator ∧
      (levelAlarms p).sequencer = p.sequencer ∧
      (levelAlarms p).dose = p.dose ∧
      (levelAlarms p).monitor = p.monitor ∧
      (levelAlarms p).log = p.log ∧
      (levelAlarms p).responder = p.responder ∧
      (levelAlarms p).loader = p.loader ∧
      (levelAlarms p).pins = p.pins ∧
      (levelAlarms p).control.mode = p.control.mode ∧
      (levelAlarms p).control.lineStop = p.control.lineStop ∧
      (levelAlarms p).control.operatorHold = p.control.operatorHold ∧
      (levelAlarms p).control.fault = p.control.fault := by
  simp [levelAlarms]

@[simp] theorem levelAlarms_port : (levelAlarms p).port = p.port :=
  (levelAlarms_leaves p).1
@[simp] theorem levelAlarms_tracker : (levelAlarms p).tracker = p.tracker :=
  (levelAlarms_leaves p).2.1
@[simp] theorem levelAlarms_sampling : (levelAlarms p).sampling = p.sampling :=
  (levelAlarms_leaves p).2.2.1
@[simp] theorem levelAlarms_regulator : (levelAlarms p).regulator = p.regulator :=
  (levelAlarms_leaves p).2.2.2.1
@[simp] theorem levelAlarms_sequencer : (levelAlarms p).sequencer = p.sequencer :=
  (levelAlarms_leaves p).2.2.2.2.1
@[simp] theorem levelAlarms_dose : (levelAlarms p).dose = p.dose :=
  (levelAlarms_leaves p).2.2.2.2.2.1
@[simp] theorem levelAlarms_monitor : (levelAlarms p).monitor = p.monitor :=
  (levelAlarms_leaves p).2.2.2.2.2.2.1
@[simp] theorem levelAlarms_log : (levelAlarms p).log = p.log :=
  (levelAlarms_leaves p).2.2.2.2.2.2.2.1
@[simp] theorem levelAlarms_responder : (levelAlarms p).responder = p.responder :=
  (levelAlarms_leaves p).2.2.2.2.2.2.2.2.1
@[simp] theorem levelAlarms_loader : (levelAlarms p).loader = p.loader :=
  (levelAlarms_leaves p).2.2.2.2.2.2.2.2.2.1
@[simp] theorem levelAlarms_pins : (levelAlarms p).pins = p.pins :=
  (levelAlarms_leaves p).2.2.2.2.2.2.2.2.2.2.1
@[simp] theorem levelAlarms_mode : (levelAlarms p).control.mode = p.control.mode :=
  (levelAlarms_leaves p).2.2.2.2.2.2.2.2.2.2.2.1
@[simp] theorem levelAlarms_lineStop : (levelAlarms p).control.lineStop = p.control.lineStop :=
  (levelAlarms_leaves p).2.2.2.2.2.2.2.2.2.2.2.2.1
@[simp] theorem levelAlarms_operatorHold : (levelAlarms p).control.operatorHold = p.control.operatorHold :=
  (levelAlarms_leaves p).2.2.2.2.2.2.2.2.2.2.2.2.2.1
@[simp] theorem levelAlarms_fault : (levelAlarms p).control.fault = p.control.fault :=
  (levelAlarms_leaves p).2.2.2.2.2.2.2.2.2.2.2.2.2.2

theorem monitorTick_leaves (lost : Bool) :
    (monitorTick lost p).port = p.port ∧
      (monitorTick lost p).tracker = p.tracker ∧
      (monitorTick lost p).sampling = p.sampling ∧
      (monitorTick lost p).regulator = p.regulator ∧
      (monitorTick lost p).sequencer = p.sequencer ∧
      (monitorTick lost p).dose = p.dose ∧
      (monitorTick lost p).control = p.control ∧
      (monitorTick lost p).log = p.log ∧
      (monitorTick lost p).responder = p.responder ∧
      (monitorTick lost p).loader = p.loader ∧
      (monitorTick lost p).pins = p.pins := by
  simp [monitorTick]

@[simp] theorem monitorTick_port (lost : Bool) : (monitorTick lost p).port = p.port :=
  (monitorTick_leaves p lost).1
@[simp] theorem monitorTick_tracker (lost : Bool) : (monitorTick lost p).tracker = p.tracker :=
  (monitorTick_leaves p lost).2.1
@[simp] theorem monitorTick_sampling (lost : Bool) : (monitorTick lost p).sampling = p.sampling :=
  (monitorTick_leaves p lost).2.2.1
@[simp] theorem monitorTick_regulator (lost : Bool) : (monitorTick lost p).regulator = p.regulator :=
  (monitorTick_leaves p lost).2.2.2.1
@[simp] theorem monitorTick_sequencer (lost : Bool) : (monitorTick lost p).sequencer = p.sequencer :=
  (monitorTick_leaves p lost).2.2.2.2.1
@[simp] theorem monitorTick_dose (lost : Bool) : (monitorTick lost p).dose = p.dose :=
  (monitorTick_leaves p lost).2.2.2.2.2.1
@[simp] theorem monitorTick_control (lost : Bool) : (monitorTick lost p).control = p.control :=
  (monitorTick_leaves p lost).2.2.2.2.2.2.1
@[simp] theorem monitorTick_log (lost : Bool) : (monitorTick lost p).log = p.log :=
  (monitorTick_leaves p lost).2.2.2.2.2.2.2.1
@[simp] theorem monitorTick_responder (lost : Bool) : (monitorTick lost p).responder = p.responder :=
  (monitorTick_leaves p lost).2.2.2.2.2.2.2.2.1
@[simp] theorem monitorTick_loader (lost : Bool) : (monitorTick lost p).loader = p.loader :=
  (monitorTick_leaves p lost).2.2.2.2.2.2.2.2.2.1
@[simp] theorem monitorTick_pins (lost : Bool) : (monitorTick lost p).pins = p.pins :=
  (monitorTick_leaves p lost).2.2.2.2.2.2.2.2.2.2

theorem readRegulator_leaves :
    (readRegulator p).port = p.port ∧
      (readRegulator p).tracker = p.tracker ∧
      (readRegulator p).sampling = p.sampling ∧
      (readRegulator p).regulator = p.regulator ∧
      (readRegulator p).sequencer = p.sequencer ∧
      (readRegulator p).dose = p.dose ∧
      (readRegulator p).log = p.log ∧
      (readRegulator p).responder = p.responder ∧
      (readRegulator p).loader = p.loader ∧
      (readRegulator p).pins = p.pins ∧
      (readRegulator p).control.mode = p.control.mode ∧
      (readRegulator p).control.lineStop = p.control.lineStop ∧
      (readRegulator p).control.operatorHold = p.control.operatorHold ∧
      (readRegulator p).control.fault = p.control.fault := by
  simp [readRegulator]

@[simp] theorem readRegulator_port : (readRegulator p).port = p.port :=
  (readRegulator_leaves p).1
@[simp] theorem readRegulator_tracker : (readRegulator p).tracker = p.tracker :=
  (readRegulator_leaves p).2.1
@[simp] theorem readRegulator_sampling : (readRegulator p).sampling = p.sampling :=
  (readRegulator_leaves p).2.2.1
@[simp] theorem readRegulator_regulator : (readRegulator p).regulator = p.regulator :=
  (readRegulator_leaves p).2.2.2.1
@[simp] theorem readRegulator_sequencer : (readRegulator p).sequencer = p.sequencer :=
  (readRegulator_leaves p).2.2.2.2.1
@[simp] theorem readRegulator_dose : (readRegulator p).dose = p.dose :=
  (readRegulator_leaves p).2.2.2.2.2.1
@[simp] theorem readRegulator_log : (readRegulator p).log = p.log :=
  (readRegulator_leaves p).2.2.2.2.2.2.1
@[simp] theorem readRegulator_responder : (readRegulator p).responder = p.responder :=
  (readRegulator_leaves p).2.2.2.2.2.2.2.1
@[simp] theorem readRegulator_loader : (readRegulator p).loader = p.loader :=
  (readRegulator_leaves p).2.2.2.2.2.2.2.2.1
@[simp] theorem readRegulator_pins : (readRegulator p).pins = p.pins :=
  (readRegulator_leaves p).2.2.2.2.2.2.2.2.2.1
@[simp] theorem readRegulator_mode : (readRegulator p).control.mode = p.control.mode :=
  (readRegulator_leaves p).2.2.2.2.2.2.2.2.2.2.1
@[simp] theorem readRegulator_lineStop : (readRegulator p).control.lineStop = p.control.lineStop :=
  (readRegulator_leaves p).2.2.2.2.2.2.2.2.2.2.2.1
@[simp] theorem readRegulator_operatorHold : (readRegulator p).control.operatorHold = p.control.operatorHold :=
  (readRegulator_leaves p).2.2.2.2.2.2.2.2.2.2.2.2.1
@[simp] theorem readRegulator_fault : (readRegulator p).control.fault = p.control.fault :=
  (readRegulator_leaves p).2.2.2.2.2.2.2.2.2.2.2.2.2

theorem countPeriodTick_leaves :
    (countPeriodTick p).port = p.port ∧
      (countPeriodTick p).tracker = p.tracker ∧
      (countPeriodTick p).sampling = p.sampling ∧
      (countPeriodTick p).sequencer = p.sequencer ∧
      (countPeriodTick p).dose = p.dose ∧
      (countPeriodTick p).control = p.control ∧
      (countPeriodTick p).monitor = p.monitor ∧
      (countPeriodTick p).log = p.log ∧
      (countPeriodTick p).responder = p.responder ∧
      (countPeriodTick p).loader = p.loader ∧
      (countPeriodTick p).pins = p.pins := by
  simp [countPeriodTick]

@[simp] theorem countPeriodTick_port : (countPeriodTick p).port = p.port :=
  (countPeriodTick_leaves p).1
@[simp] theorem countPeriodTick_tracker : (countPeriodTick p).tracker = p.tracker :=
  (countPeriodTick_leaves p).2.1
@[simp] theorem countPeriodTick_sampling : (countPeriodTick p).sampling = p.sampling :=
  (countPeriodTick_leaves p).2.2.1
@[simp] theorem countPeriodTick_sequencer : (countPeriodTick p).sequencer = p.sequencer :=
  (countPeriodTick_leaves p).2.2.2.1
@[simp] theorem countPeriodTick_dose : (countPeriodTick p).dose = p.dose :=
  (countPeriodTick_leaves p).2.2.2.2.1
@[simp] theorem countPeriodTick_control : (countPeriodTick p).control = p.control :=
  (countPeriodTick_leaves p).2.2.2.2.2.1
@[simp] theorem countPeriodTick_monitor : (countPeriodTick p).monitor = p.monitor :=
  (countPeriodTick_leaves p).2.2.2.2.2.2.1
@[simp] theorem countPeriodTick_log : (countPeriodTick p).log = p.log :=
  (countPeriodTick_leaves p).2.2.2.2.2.2.2.1
@[simp] theorem countPeriodTick_responder : (countPeriodTick p).responder = p.responder :=
  (countPeriodTick_leaves p).2.2.2.2.2.2.2.2.1
@[simp] theorem countPeriodTick_loader : (countPeriodTick p).loader = p.loader :=
  (countPeriodTick_leaves p).2.2.2.2.2.2.2.2.2.1
@[simp] theorem countPeriodTick_pins : (countPeriodTick p).pins = p.pins :=
  (countPeriodTick_leaves p).2.2.2.2.2.2.2.2.2.2

theorem takeConversions_leaves (conv : Conversions) :
    (takeConversions conv p).port = p.port ∧
      (takeConversions conv p).tracker = p.tracker ∧
      (takeConversions conv p).regulator = p.regulator ∧
      (takeConversions conv p).sequencer = p.sequencer ∧
      (takeConversions conv p).dose = p.dose ∧
      (takeConversions conv p).control = p.control ∧
      (takeConversions conv p).monitor = p.monitor ∧
      (takeConversions conv p).log = p.log ∧
      (takeConversions conv p).responder = p.responder ∧
      (takeConversions conv p).loader = p.loader ∧
      (takeConversions conv p).pins = p.pins := by
  simp [takeConversions]

@[simp] theorem takeConversions_port (conv : Conversions) : (takeConversions conv p).port = p.port :=
  (takeConversions_leaves p conv).1
@[simp] theorem takeConversions_tracker (conv : Conversions) : (takeConversions conv p).tracker = p.tracker :=
  (takeConversions_leaves p conv).2.1
@[simp] theorem takeConversions_regulator (conv : Conversions) : (takeConversions conv p).regulator = p.regulator :=
  (takeConversions_leaves p conv).2.2.1
@[simp] theorem takeConversions_sequencer (conv : Conversions) : (takeConversions conv p).sequencer = p.sequencer :=
  (takeConversions_leaves p conv).2.2.2.1
@[simp] theorem takeConversions_dose (conv : Conversions) : (takeConversions conv p).dose = p.dose :=
  (takeConversions_leaves p conv).2.2.2.2.1
@[simp] theorem takeConversions_control (conv : Conversions) : (takeConversions conv p).control = p.control :=
  (takeConversions_leaves p conv).2.2.2.2.2.1
@[simp] theorem takeConversions_monitor (conv : Conversions) : (takeConversions conv p).monitor = p.monitor :=
  (takeConversions_leaves p conv).2.2.2.2.2.2.1
@[simp] theorem takeConversions_log (conv : Conversions) : (takeConversions conv p).log = p.log :=
  (takeConversions_leaves p conv).2.2.2.2.2.2.2.1
@[simp] theorem takeConversions_responder (conv : Conversions) : (takeConversions conv p).responder = p.responder :=
  (takeConversions_leaves p conv).2.2.2.2.2.2.2.2.1
@[simp] theorem takeConversions_loader (conv : Conversions) : (takeConversions conv p).loader = p.loader :=
  (takeConversions_leaves p conv).2.2.2.2.2.2.2.2.2.1
@[simp] theorem takeConversions_pins (conv : Conversions) : (takeConversions conv p).pins = p.pins :=
  (takeConversions_leaves p conv).2.2.2.2.2.2.2.2.2.2

theorem tick_leaves (conv : Conversions) :
    (tick conv p).port = p.port ∧
      (tick conv p).tracker = p.tracker ∧
      (tick conv p).log = p.log ∧
      (tick conv p).responder = p.responder ∧
      (tick conv p).loader = p.loader ∧
      (tick conv p).pins = p.pins ∧
      (tick conv p).control.mode = p.control.mode ∧
      (tick conv p).control.lineStop = p.control.lineStop ∧
      (tick conv p).control.operatorHold = p.control.operatorHold ∧
      (tick conv p).control.fault = p.control.fault := by
  simp only [tick]
  split <;> simp

@[simp] theorem tick_port (conv : Conversions) : (tick conv p).port = p.port :=
  (tick_leaves p conv).1
@[simp] theorem tick_tracker (conv : Conversions) : (tick conv p).tracker = p.tracker :=
  (tick_leaves p conv).2.1
@[simp] theorem tick_log (conv : Conversions) : (tick conv p).log = p.log :=
  (tick_leaves p conv).2.2.1
@[simp] theorem tick_responder (conv : Conversions) : (tick conv p).responder = p.responder :=
  (tick_leaves p conv).2.2.2.1
@[simp] theorem tick_loader (conv : Conversions) : (tick conv p).loader = p.loader :=
  (tick_leaves p conv).2.2.2.2.1
@[simp] theorem tick_pins (conv : Conversions) : (tick conv p).pins = p.pins :=
  (tick_leaves p conv).2.2.2.2.2.1
@[simp] theorem tick_mode (conv : Conversions) : (tick conv p).control.mode = p.control.mode :=
  (tick_leaves p conv).2.2.2.2.2.2.1
@[simp] theorem tick_lineStop (conv : Conversions) : (tick conv p).control.lineStop = p.control.lineStop :=
  (tick_leaves p conv).2.2.2.2.2.2.2.1
@[simp] theorem tick_operatorHold (conv : Conversions) : (tick conv p).control.operatorHold = p.control.operatorHold :=
  (tick_leaves p conv).2.2.2.2.2.2.2.2.1
@[simp] theorem tick_fault (conv : Conversions) : (tick conv p).control.fault = p.control.fault :=
  (tick_leaves p conv).2.2.2.2.2.2.2.2.2

end Sys2Proof.Machine
end

