-- ==== Sys2Proof/Laws/DueFrames.lean ====
section
/-! SUPPORT. What the due events and the end of an event leave unchanged: one lemma per operation, the conjunction of the blocks it does not touch, and its parts for simp. -/

namespace Sys2Proof.Machine

variable (p : Part)

theorem openAfterLag_leaves :
    (openAfterLag p).port = p.port ∧
      (openAfterLag p).tracker = p.tracker ∧
      (openAfterLag p).sampling = p.sampling ∧
      (openAfterLag p).regulator = p.regulator ∧
      (openAfterLag p).control = p.control ∧
      (openAfterLag p).log = p.log ∧
      (openAfterLag p).responder = p.responder ∧
      (openAfterLag p).loader = p.loader ∧
      (openAfterLag p).pins = p.pins := by
  simp only [openAfterLag]
  split <;> simp

@[simp] theorem openAfterLag_port : (openAfterLag p).port = p.port :=
  (openAfterLag_leaves p).1
@[simp] theorem openAfterLag_tracker : (openAfterLag p).tracker = p.tracker :=
  (openAfterLag_leaves p).2.1
@[simp] theorem openAfterLag_sampling : (openAfterLag p).sampling = p.sampling :=
  (openAfterLag_leaves p).2.2.1
@[simp] theorem openAfterLag_regulator : (openAfterLag p).regulator = p.regulator :=
  (openAfterLag_leaves p).2.2.2.1
@[simp] theorem openAfterLag_control : (openAfterLag p).control = p.control :=
  (openAfterLag_leaves p).2.2.2.2.1
@[simp] theorem openAfterLag_log : (openAfterLag p).log = p.log :=
  (openAfterLag_leaves p).2.2.2.2.2.1
@[simp] theorem openAfterLag_responder : (openAfterLag p).responder = p.responder :=
  (openAfterLag_leaves p).2.2.2.2.2.2.1
@[simp] theorem openAfterLag_loader : (openAfterLag p).loader = p.loader :=
  (openAfterLag_leaves p).2.2.2.2.2.2.2.1
@[simp] theorem openAfterLag_pins : (openAfterLag p).pins = p.pins :=
  (openAfterLag_leaves p).2.2.2.2.2.2.2.2

theorem endLag_leaves (lane : Nat) :
    (endLag lane p).port = p.port ∧
      (endLag lane p).tracker = p.tracker ∧
      (endLag lane p).sampling = p.sampling ∧
      (endLag lane p).regulator = p.regulator ∧
      (endLag lane p).control = p.control ∧
      (endLag lane p).log = p.log ∧
      (endLag lane p).responder = p.responder ∧
      (endLag lane p).loader = p.loader ∧
      (endLag lane p).pins = p.pins := by
  simp only [endLag]
  split <;> simp

@[simp] theorem endLag_port (lane : Nat) : (endLag lane p).port = p.port :=
  (endLag_leaves p lane).1
@[simp] theorem endLag_tracker (lane : Nat) : (endLag lane p).tracker = p.tracker :=
  (endLag_leaves p lane).2.1
@[simp] theorem endLag_sampling (lane : Nat) : (endLag lane p).sampling = p.sampling :=
  (endLag_leaves p lane).2.2.1
@[simp] theorem endLag_regulator (lane : Nat) : (endLag lane p).regulator = p.regulator :=
  (endLag_leaves p lane).2.2.2.1
@[simp] theorem endLag_control (lane : Nat) : (endLag lane p).control = p.control :=
  (endLag_leaves p lane).2.2.2.2.1
@[simp] theorem endLag_log (lane : Nat) : (endLag lane p).log = p.log :=
  (endLag_leaves p lane).2.2.2.2.2.1
@[simp] theorem endLag_responder (lane : Nat) : (endLag lane p).responder = p.responder :=
  (endLag_leaves p lane).2.2.2.2.2.2.1
@[simp] theorem endLag_loader (lane : Nat) : (endLag lane p).loader = p.loader :=
  (endLag_leaves p lane).2.2.2.2.2.2.2.1
@[simp] theorem endLag_pins (lane : Nat) : (endLag lane p).pins = p.pins :=
  (endLag_leaves p lane).2.2.2.2.2.2.2.2

theorem endLags_leaves :
    (endLags p).port = p.port ∧
      (endLags p).tracker = p.tracker ∧
      (endLags p).sampling = p.sampling ∧
      (endLags p).regulator = p.regulator ∧
      (endLags p).control = p.control ∧
      (endLags p).log = p.log ∧
      (endLags p).responder = p.responder ∧
      (endLags p).loader = p.loader ∧
      (endLags p).pins = p.pins := by
  simp only [endLags]
  split <;> simp

@[simp] theorem endLags_port : (endLags p).port = p.port :=
  (endLags_leaves p).1
@[simp] theorem endLags_tracker : (endLags p).tracker = p.tracker :=
  (endLags_leaves p).2.1
@[simp] theorem endLags_sampling : (endLags p).sampling = p.sampling :=
  (endLags_leaves p).2.2.1
@[simp] theorem endLags_regulator : (endLags p).regulator = p.regulator :=
  (endLags_leaves p).2.2.2.1
@[simp] theorem endLags_control : (endLags p).control = p.control :=
  (endLags_leaves p).2.2.2.2.1
@[simp] theorem endLags_log : (endLags p).log = p.log :=
  (endLags_leaves p).2.2.2.2.2.1
@[simp] theorem endLags_responder : (endLags p).responder = p.responder :=
  (endLags_leaves p).2.2.2.2.2.2.1
@[simp] theorem endLags_loader : (endLags p).loader = p.loader :=
  (endLags_leaves p).2.2.2.2.2.2.2.1
@[simp] theorem endLags_pins : (endLags p).pins = p.pins :=
  (endLags_leaves p).2.2.2.2.2.2.2.2

theorem endAtLimit_leaves :
    (endAtLimit p).port = p.port ∧
      (endAtLimit p).tracker = p.tracker ∧
      (endAtLimit p).sampling = p.sampling ∧
      (endAtLimit p).regulator = p.regulator ∧
      (endAtLimit p).control = p.control ∧
      (endAtLimit p).log = p.log ∧
      (endAtLimit p).responder = p.responder ∧
      (endAtLimit p).loader = p.loader ∧
      (endAtLimit p).pins = p.pins := by
  simp only [endAtLimit]
  split <;> simp

@[simp] theorem endAtLimit_port : (endAtLimit p).port = p.port :=
  (endAtLimit_leaves p).1
@[simp] theorem endAtLimit_tracker : (endAtLimit p).tracker = p.tracker :=
  (endAtLimit_leaves p).2.1
@[simp] theorem endAtLimit_sampling : (endAtLimit p).sampling = p.sampling :=
  (endAtLimit_leaves p).2.2.1
@[simp] theorem endAtLimit_regulator : (endAtLimit p).regulator = p.regulator :=
  (endAtLimit_leaves p).2.2.2.1
@[simp] theorem endAtLimit_control : (endAtLimit p).control = p.control :=
  (endAtLimit_leaves p).2.2.2.2.1
@[simp] theorem endAtLimit_log : (endAtLimit p).log = p.log :=
  (endAtLimit_leaves p).2.2.2.2.2.1
@[simp] theorem endAtLimit_responder : (endAtLimit p).responder = p.responder :=
  (endAtLimit_leaves p).2.2.2.2.2.2.1
@[simp] theorem endAtLimit_loader : (endAtLimit p).loader = p.loader :=
  (endAtLimit_leaves p).2.2.2.2.2.2.2.1
@[simp] theorem endAtLimit_pins : (endAtLimit p).pins = p.pins :=
  (endAtLimit_leaves p).2.2.2.2.2.2.2.2

theorem dryLift_leaves (lane : Nat) :
    (dryLift lane p).port = p.port ∧
      (dryLift lane p).tracker = p.tracker ∧
      (dryLift lane p).sampling = p.sampling ∧
      (dryLift lane p).regulator = p.regulator ∧
      (dryLift lane p).sequencer = p.sequencer ∧
      (dryLift lane p).control = p.control ∧
      (dryLift lane p).monitor = p.monitor ∧
      (dryLift lane p).log = p.log ∧
      (dryLift lane p).responder = p.responder ∧
      (dryLift lane p).loader = p.loader ∧
      (dryLift lane p).pins = p.pins := by
  simp only [dryLift]
  split <;> simp

@[simp] theorem dryLift_port (lane : Nat) : (dryLift lane p).port = p.port :=
  (dryLift_leaves p lane).1
@[simp] theorem dryLift_tracker (lane : Nat) : (dryLift lane p).tracker = p.tracker :=
  (dryLift_leaves p lane).2.1
@[simp] theorem dryLift_sampling (lane : Nat) : (dryLift lane p).sampling = p.sampling :=
  (dryLift_leaves p lane).2.2.1
@[simp] theorem dryLift_regulator (lane : Nat) : (dryLift lane p).regulator = p.regulator :=
  (dryLift_leaves p lane).2.2.2.1
@[simp] theorem dryLift_sequencer (lane : Nat) : (dryLift lane p).sequencer = p.sequencer :=
  (dryLift_leaves p lane).2.2.2.2.1
@[simp] theorem dryLift_control (lane : Nat) : (dryLift lane p).control = p.control :=
  (dryLift_leaves p lane).2.2.2.2.2.1
@[simp] theorem dryLift_monitor (lane : Nat) : (dryLift lane p).monitor = p.monitor :=
  (dryLift_leaves p lane).2.2.2.2.2.2.1
@[simp] theorem dryLift_log (lane : Nat) : (dryLift lane p).log = p.log :=
  (dryLift_leaves p lane).2.2.2.2.2.2.2.1
@[simp] theorem dryLift_responder (lane : Nat) : (dryLift lane p).responder = p.responder :=
  (dryLift_leaves p lane).2.2.2.2.2.2.2.2.1
@[simp] theorem dryLift_loader (lane : Nat) : (dryLift lane p).loader = p.loader :=
  (dryLift_leaves p lane).2.2.2.2.2.2.2.2.2.1
@[simp] theorem dryLift_pins (lane : Nat) : (dryLift lane p).pins = p.pins :=
  (dryLift_leaves p lane).2.2.2.2.2.2.2.2.2.2

theorem dryLifts_leaves :
    (dryLifts p).port = p.port ∧
      (dryLifts p).tracker = p.tracker ∧
      (dryLifts p).sampling = p.sampling ∧
      (dryLifts p).regulator = p.regulator ∧
      (dryLifts p).sequencer = p.sequencer ∧
      (dryLifts p).control = p.control ∧
      (dryLifts p).monitor = p.monitor ∧
      (dryLifts p).log = p.log ∧
      (dryLifts p).responder = p.responder ∧
      (dryLifts p).loader = p.loader ∧
      (dryLifts p).pins = p.pins := by
  simp [dryLifts]

@[simp] theorem dryLifts_port : (dryLifts p).port = p.port :=
  (dryLifts_leaves p).1
@[simp] theorem dryLifts_tracker : (dryLifts p).tracker = p.tracker :=
  (dryLifts_leaves p).2.1
@[simp] theorem dryLifts_sampling : (dryLifts p).sampling = p.sampling :=
  (dryLifts_leaves p).2.2.1
@[simp] theorem dryLifts_regulator : (dryLifts p).regulator = p.regulator :=
  (dryLifts_leaves p).2.2.2.1
@[simp] theorem dryLifts_sequencer : (dryLifts p).sequencer = p.sequencer :=
  (dryLifts_leaves p).2.2.2.2.1
@[simp] theorem dryLifts_control : (dryLifts p).control = p.control :=
  (dryLifts_leaves p).2.2.2.2.2.1
@[simp] theorem dryLifts_monitor : (dryLifts p).monitor = p.monitor :=
  (dryLifts_leaves p).2.2.2.2.2.2.1
@[simp] theorem dryLifts_log : (dryLifts p).log = p.log :=
  (dryLifts_leaves p).2.2.2.2.2.2.2.1
@[simp] theorem dryLifts_responder : (dryLifts p).responder = p.responder :=
  (dryLifts_leaves p).2.2.2.2.2.2.2.2.1
@[simp] theorem dryLifts_loader : (dryLifts p).loader = p.loader :=
  (dryLifts_leaves p).2.2.2.2.2.2.2.2.2.1
@[simp] theorem dryLifts_pins : (dryLifts p).pins = p.pins :=
  (dryLifts_leaves p).2.2.2.2.2.2.2.2.2.2

theorem endDryDwell_leaves :
    (endDryDwell p).port = p.port ∧
      (endDryDwell p).tracker = p.tracker ∧
      (endDryDwell p).sampling = p.sampling ∧
      (endDryDwell p).regulator = p.regulator ∧
      (endDryDwell p).control = p.control ∧
      (endDryDwell p).log = p.log ∧
      (endDryDwell p).responder = p.responder ∧
      (endDryDwell p).loader = p.loader ∧
      (endDryDwell p).pins = p.pins := by
  simp only [endDryDwell]
  split <;> simp

@[simp] theorem endDryDwell_port : (endDryDwell p).port = p.port :=
  (endDryDwell_leaves p).1
@[simp] theorem endDryDwell_tracker : (endDryDwell p).tracker = p.tracker :=
  (endDryDwell_leaves p).2.1
@[simp] theorem endDryDwell_sampling : (endDryDwell p).sampling = p.sampling :=
  (endDryDwell_leaves p).2.2.1
@[simp] theorem endDryDwell_regulator : (endDryDwell p).regulator = p.regulator :=
  (endDryDwell_leaves p).2.2.2.1
@[simp] theorem endDryDwell_control : (endDryDwell p).control = p.control :=
  (endDryDwell_leaves p).2.2.2.2.1
@[simp] theorem endDryDwell_log : (endDryDwell p).log = p.log :=
  (endDryDwell_leaves p).2.2.2.2.2.1
@[simp] theorem endDryDwell_responder : (endDryDwell p).responder = p.responder :=
  (endDryDwell_leaves p).2.2.2.2.2.2.1
@[simp] theorem endDryDwell_loader : (endDryDwell p).loader = p.loader :=
  (endDryDwell_leaves p).2.2.2.2.2.2.2.1
@[simp] theorem endDryDwell_pins : (endDryDwell p).pins = p.pins :=
  (endDryDwell_leaves p).2.2.2.2.2.2.2.2

theorem endDueCheck_leaves :
    (endDueCheck p).pins = p.pins ∧
      (endDueCheck p).control.operatorHold = p.control.operatorHold := by
  simp only [endDueCheck]
  split <;> simp

@[simp] theorem endDueCheck_pins : (endDueCheck p).pins = p.pins :=
  (endDueCheck_leaves p).1
@[simp] theorem endDueCheck_operatorHold : (endDueCheck p).control.operatorHold = p.control.operatorHold :=
  (endDueCheck_leaves p).2

theorem endIdle_leaves :
    (endIdle p).port = p.port ∧
      (endIdle p).tracker = p.tracker ∧
      (endIdle p).sampling = p.sampling ∧
      (endIdle p).sequencer = p.sequencer ∧
      (endIdle p).dose = p.dose ∧
      (endIdle p).control = p.control ∧
      (endIdle p).monitor = p.monitor ∧
      (endIdle p).log = p.log ∧
      (endIdle p).responder = p.responder ∧
      (endIdle p).loader = p.loader ∧
      (endIdle p).pins = p.pins := by
  simp only [endIdle]
  split <;> simp

@[simp] theorem endIdle_port : (endIdle p).port = p.port :=
  (endIdle_leaves p).1
@[simp] theorem endIdle_tracker : (endIdle p).tracker = p.tracker :=
  (endIdle_leaves p).2.1
@[simp] theorem endIdle_sampling : (endIdle p).sampling = p.sampling :=
  (endIdle_leaves p).2.2.1
@[simp] theorem endIdle_sequencer : (endIdle p).sequencer = p.sequencer :=
  (endIdle_leaves p).2.2.2.1
@[simp] theorem endIdle_dose : (endIdle p).dose = p.dose :=
  (endIdle_leaves p).2.2.2.2.1
@[simp] theorem endIdle_control : (endIdle p).control = p.control :=
  (endIdle_leaves p).2.2.2.2.2.1
@[simp] theorem endIdle_monitor : (endIdle p).monitor = p.monitor :=
  (endIdle_leaves p).2.2.2.2.2.2.1
@[simp] theorem endIdle_log : (endIdle p).log = p.log :=
  (endIdle_leaves p).2.2.2.2.2.2.2.1
@[simp] theorem endIdle_responder : (endIdle p).responder = p.responder :=
  (endIdle_leaves p).2.2.2.2.2.2.2.2.1
@[simp] theorem endIdle_loader : (endIdle p).loader = p.loader :=
  (endIdle_leaves p).2.2.2.2.2.2.2.2.2.1
@[simp] theorem endIdle_pins : (endIdle p).pins = p.pins :=
  (endIdle_leaves p).2.2.2.2.2.2.2.2.2.2

theorem endHeater_leaves (lane : Nat) :
    (endHeater lane p).port = p.port ∧
      (endHeater lane p).tracker = p.tracker ∧
      (endHeater lane p).sampling = p.sampling ∧
      (endHeater lane p).sequencer = p.sequencer ∧
      (endHeater lane p).dose = p.dose ∧
      (endHeater lane p).control = p.control ∧
      (endHeater lane p).monitor = p.monitor ∧
      (endHeater lane p).log = p.log ∧
      (endHeater lane p).responder = p.responder ∧
      (endHeater lane p).loader = p.loader ∧
      (endHeater lane p).pins = p.pins := by
  simp only [endHeater]
  split <;> simp

@[simp] theorem endHeater_port (lane : Nat) : (endHeater lane p).port = p.port :=
  (endHeater_leaves p lane).1
@[simp] theorem endHeater_tracker (lane : Nat) : (endHeater lane p).tracker = p.tracker :=
  (endHeater_leaves p lane).2.1
@[simp] theorem endHeater_sampling (lane : Nat) : (endHeater lane p).sampling = p.sampling :=
  (endHeater_leaves p lane).2.2.1
@[simp] theorem endHeater_sequencer (lane : Nat) : (endHeater lane p).sequencer = p.sequencer :=
  (endHeater_leaves p lane).2.2.2.1
@[simp] theorem endHeater_dose (lane : Nat) : (endHeater lane p).dose = p.dose :=
  (endHeater_leaves p lane).2.2.2.2.1
@[simp] theorem endHeater_control (lane : Nat) : (endHeater lane p).control = p.control :=
  (endHeater_leaves p lane).2.2.2.2.2.1
@[simp] theorem endHeater_monitor (lane : Nat) : (endHeater lane p).monitor = p.monitor :=
  (endHeater_leaves p lane).2.2.2.2.2.2.1
@[simp] theorem endHeater_log (lane : Nat) : (endHeater lane p).log = p.log :=
  (endHeater_leaves p lane).2.2.2.2.2.2.2.1
@[simp] theorem endHeater_responder (lane : Nat) : (endHeater lane p).responder = p.responder :=
  (endHeater_leaves p lane).2.2.2.2.2.2.2.2.1
@[simp] theorem endHeater_loader (lane : Nat) : (endHeater lane p).loader = p.loader :=
  (endHeater_leaves p lane).2.2.2.2.2.2.2.2.2.1
@[simp] theorem endHeater_pins (lane : Nat) : (endHeater lane p).pins = p.pins :=
  (endHeater_leaves p lane).2.2.2.2.2.2.2.2.2.2

theorem endHeaters_leaves :
    (endHeaters p).port = p.port ∧
      (endHeaters p).tracker = p.tracker ∧
      (endHeaters p).sampling = p.sampling ∧
      (endHeaters p).sequencer = p.sequencer ∧
      (endHeaters p).dose = p.dose ∧
      (endHeaters p).control = p.control ∧
      (endHeaters p).monitor = p.monitor ∧
      (endHeaters p).log = p.log ∧
      (endHeaters p).responder = p.responder ∧
      (endHeaters p).loader = p.loader ∧
      (endHeaters p).pins = p.pins := by
  simp [endHeaters]

@[simp] theorem endHeaters_port : (endHeaters p).port = p.port :=
  (endHeaters_leaves p).1
@[simp] theorem endHeaters_tracker : (endHeaters p).tracker = p.tracker :=
  (endHeaters_leaves p).2.1
@[simp] theorem endHeaters_sampling : (endHeaters p).sampling = p.sampling :=
  (endHeaters_leaves p).2.2.1
@[simp] theorem endHeaters_sequencer : (endHeaters p).sequencer = p.sequencer :=
  (endHeaters_leaves p).2.2.2.1
@[simp] theorem endHeaters_dose : (endHeaters p).dose = p.dose :=
  (endHeaters_leaves p).2.2.2.2.1
@[simp] theorem endHeaters_control : (endHeaters p).control = p.control :=
  (endHeaters_leaves p).2.2.2.2.2.1
@[simp] theorem endHeaters_monitor : (endHeaters p).monitor = p.monitor :=
  (endHeaters_leaves p).2.2.2.2.2.2.1
@[simp] theorem endHeaters_log : (endHeaters p).log = p.log :=
  (endHeaters_leaves p).2.2.2.2.2.2.2.1
@[simp] theorem endHeaters_responder : (endHeaters p).responder = p.responder :=
  (endHeaters_leaves p).2.2.2.2.2.2.2.2.1
@[simp] theorem endHeaters_loader : (endHeaters p).loader = p.loader :=
  (endHeaters_leaves p).2.2.2.2.2.2.2.2.2.1
@[simp] theorem endHeaters_pins : (endHeaters p).pins = p.pins :=
  (endHeaters_leaves p).2.2.2.2.2.2.2.2.2.2

theorem endPeriod_leaves :
    (endPeriod p).tracker = p.tracker ∧
      (endPeriod p).sampling = p.sampling ∧
      (endPeriod p).sequencer = p.sequencer ∧
      (endPeriod p).dose = p.dose ∧
      (endPeriod p).log = p.log ∧
      (endPeriod p).responder = p.responder ∧
      (endPeriod p).loader = p.loader ∧
      (endPeriod p).pins = p.pins ∧
      (endPeriod p).control.mode = p.control.mode ∧
      (endPeriod p).control.lineStop = p.control.lineStop ∧
      (endPeriod p).control.operatorHold = p.control.operatorHold ∧
      (endPeriod p).control.fault = p.control.fault := by
  simp only [endPeriod]
  split <;> simp

@[simp] theorem endPeriod_tracker : (endPeriod p).tracker = p.tracker :=
  (endPeriod_leaves p).1
@[simp] theorem endPeriod_sampling : (endPeriod p).sampling = p.sampling :=
  (endPeriod_leaves p).2.1
@[simp] theorem endPeriod_sequencer : (endPeriod p).sequencer = p.sequencer :=
  (endPeriod_leaves p).2.2.1
@[simp] theorem endPeriod_dose : (endPeriod p).dose = p.dose :=
  (endPeriod_leaves p).2.2.2.1
@[simp] theorem endPeriod_log : (endPeriod p).log = p.log :=
  (endPeriod_leaves p).2.2.2.2.1
@[simp] theorem endPeriod_responder : (endPeriod p).responder = p.responder :=
  (endPeriod_leaves p).2.2.2.2.2.1
@[simp] theorem endPeriod_loader : (endPeriod p).loader = p.loader :=
  (endPeriod_leaves p).2.2.2.2.2.2.1
@[simp] theorem endPeriod_pins : (endPeriod p).pins = p.pins :=
  (endPeriod_leaves p).2.2.2.2.2.2.2.1
@[simp] theorem endPeriod_mode : (endPeriod p).control.mode = p.control.mode :=
  (endPeriod_leaves p).2.2.2.2.2.2.2.2.1
@[simp] theorem endPeriod_lineStop : (endPeriod p).control.lineStop = p.control.lineStop :=
  (endPeriod_leaves p).2.2.2.2.2.2.2.2.2.1
@[simp] theorem endPeriod_operatorHold : (endPeriod p).control.operatorHold = p.control.operatorHold :=
  (endPeriod_leaves p).2.2.2.2.2.2.2.2.2.2.1
@[simp] theorem endPeriod_fault : (endPeriod p).control.fault = p.control.fault :=
  (endPeriod_leaves p).2.2.2.2.2.2.2.2.2.2.2

theorem endDuePeriod_leaves :
    (endDuePeriod p).tracker = p.tracker ∧
      (endDuePeriod p).sampling = p.sampling ∧
      (endDuePeriod p).sequencer = p.sequencer ∧
      (endDuePeriod p).dose = p.dose ∧
      (endDuePeriod p).log = p.log ∧
      (endDuePeriod p).responder = p.responder ∧
      (endDuePeriod p).loader = p.loader ∧
      (endDuePeriod p).pins = p.pins ∧
      (endDuePeriod p).control.mode = p.control.mode ∧
      (endDuePeriod p).control.lineStop = p.control.lineStop ∧
      (endDuePeriod p).control.operatorHold = p.control.operatorHold ∧
      (endDuePeriod p).control.fault = p.control.fault := by
  simp only [endDuePeriod]
  split <;> simp

@[simp] theorem endDuePeriod_tracker : (endDuePeriod p).tracker = p.tracker :=
  (endDuePeriod_leaves p).1
@[simp] theorem endDuePeriod_sampling : (endDuePeriod p).sampling = p.sampling :=
  (endDuePeriod_leaves p).2.1
@[simp] theorem endDuePeriod_sequencer : (endDuePeriod p).sequencer = p.sequencer :=
  (endDuePeriod_leaves p).2.2.1
@[simp] theorem endDuePeriod_dose : (endDuePeriod p).dose = p.dose :=
  (endDuePeriod_leaves p).2.2.2.1
@[simp] theorem endDuePeriod_log : (endDuePeriod p).log = p.log :=
  (endDuePeriod_leaves p).2.2.2.2.1
@[simp] theorem endDuePeriod_responder : (endDuePeriod p).responder = p.responder :=
  (endDuePeriod_leaves p).2.2.2.2.2.1
@[simp] theorem endDuePeriod_loader : (endDuePeriod p).loader = p.loader :=
  (endDuePeriod_leaves p).2.2.2.2.2.2.1
@[simp] theorem endDuePeriod_pins : (endDuePeriod p).pins = p.pins :=
  (endDuePeriod_leaves p).2.2.2.2.2.2.2.1
@[simp] theorem endDuePeriod_mode : (endDuePeriod p).control.mode = p.control.mode :=
  (endDuePeriod_leaves p).2.2.2.2.2.2.2.2.1
@[simp] theorem endDuePeriod_lineStop : (endDuePeriod p).control.lineStop = p.control.lineStop :=
  (endDuePeriod_leaves p).2.2.2.2.2.2.2.2.2.1
@[simp] theorem endDuePeriod_operatorHold : (endDuePeriod p).control.operatorHold = p.control.operatorHold :=
  (endDuePeriod_leaves p).2.2.2.2.2.2.2.2.2.2.1
@[simp] theorem endDuePeriod_fault : (endDuePeriod p).control.fault = p.control.fault :=
  (endDuePeriod_leaves p).2.2.2.2.2.2.2.2.2.2.2

theorem drive_leaves :
    (drive p).port = p.port ∧
      (drive p).tracker = p.tracker ∧
      (drive p).sampling = p.sampling ∧
      (drive p).regulator = p.regulator ∧
      (drive p).sequencer = p.sequencer ∧
      (drive p).dose = p.dose ∧
      (drive p).control = p.control ∧
      (drive p).monitor = p.monitor ∧
      (drive p).log = p.log ∧
      (drive p).responder = p.responder ∧
      (drive p).loader = p.loader := by
  simp [drive]

@[simp] theorem drive_port : (drive p).port = p.port :=
  (drive_leaves p).1
@[simp] theorem drive_tracker : (drive p).tracker = p.tracker :=
  (drive_leaves p).2.1
@[simp] theorem drive_sampling : (drive p).sampling = p.sampling :=
  (drive_leaves p).2.2.1
@[simp] theorem drive_regulator : (drive p).regulator = p.regulator :=
  (drive_leaves p).2.2.2.1
@[simp] theorem drive_sequencer : (drive p).sequencer = p.sequencer :=
  (drive_leaves p).2.2.2.2.1
@[simp] theorem drive_dose : (drive p).dose = p.dose :=
  (drive_leaves p).2.2.2.2.2.1
@[simp] theorem drive_control : (drive p).control = p.control :=
  (drive_leaves p).2.2.2.2.2.2.1
@[simp] theorem drive_monitor : (drive p).monitor = p.monitor :=
  (drive_leaves p).2.2.2.2.2.2.2.1
@[simp] theorem drive_log : (drive p).log = p.log :=
  (drive_leaves p).2.2.2.2.2.2.2.2.1
@[simp] theorem drive_responder : (drive p).responder = p.responder :=
  (drive_leaves p).2.2.2.2.2.2.2.2.2.1
@[simp] theorem drive_loader : (drive p).loader = p.loader :=
  (drive_leaves p).2.2.2.2.2.2.2.2.2.2

end Sys2Proof.Machine
end

