-- ==== Sys2Proof/Laws/FramesFrames.lean ====
section
/-! SUPPORT. What the reception of a frame and a reply leave unchanged: one lemma per operation, the conjunction of the blocks it does not touch, and its parts for simp. -/

namespace Sys2Proof.Machine

variable (p : Part)

theorem reply_leaves (h : Header) (code : Byte) (status : ReplyStatus) (data : List Byte) :
    (reply h code status data p).tracker = p.tracker ∧
      (reply h code status data p).sampling = p.sampling ∧
      (reply h code status data p).regulator = p.regulator ∧
      (reply h code status data p).sequencer = p.sequencer ∧
      (reply h code status data p).dose = p.dose ∧
      (reply h code status data p).log = p.log ∧
      (reply h code status data p).responder = p.responder ∧
      (reply h code status data p).loader = p.loader ∧
      (reply h code status data p).pins = p.pins ∧
      (reply h code status data p).control.mode = p.control.mode ∧
      (reply h code status data p).control.lineStop = p.control.lineStop ∧
      (reply h code status data p).control.operatorHold = p.control.operatorHold ∧
      (reply h code status data p).control.fault = p.control.fault := by
  simp [reply]

@[simp] theorem reply_tracker (h : Header) (code : Byte) (status : ReplyStatus) (data : List Byte) : (reply h code status data p).tracker = p.tracker :=
  (reply_leaves p h code status data).1
@[simp] theorem reply_sampling (h : Header) (code : Byte) (status : ReplyStatus) (data : List Byte) : (reply h code status data p).sampling = p.sampling :=
  (reply_leaves p h code status data).2.1
@[simp] theorem reply_regulator (h : Header) (code : Byte) (status : ReplyStatus) (data : List Byte) : (reply h code status data p).regulator = p.regulator :=
  (reply_leaves p h code status data).2.2.1
@[simp] theorem reply_sequencer (h : Header) (code : Byte) (status : ReplyStatus) (data : List Byte) : (reply h code status data p).sequencer = p.sequencer :=
  (reply_leaves p h code status data).2.2.2.1
@[simp] theorem reply_dose (h : Header) (code : Byte) (status : ReplyStatus) (data : List Byte) : (reply h code status data p).dose = p.dose :=
  (reply_leaves p h code status data).2.2.2.2.1
@[simp] theorem reply_log (h : Header) (code : Byte) (status : ReplyStatus) (data : List Byte) : (reply h code status data p).log = p.log :=
  (reply_leaves p h code status data).2.2.2.2.2.1
@[simp] theorem reply_responder (h : Header) (code : Byte) (status : ReplyStatus) (data : List Byte) : (reply h code status data p).responder = p.responder :=
  (reply_leaves p h code status data).2.2.2.2.2.2.1
@[simp] theorem reply_loader (h : Header) (code : Byte) (status : ReplyStatus) (data : List Byte) : (reply h code status data p).loader = p.loader :=
  (reply_leaves p h code status data).2.2.2.2.2.2.2.1
@[simp] theorem reply_pins (h : Header) (code : Byte) (status : ReplyStatus) (data : List Byte) : (reply h code status data p).pins = p.pins :=
  (reply_leaves p h code status data).2.2.2.2.2.2.2.2.1
@[simp] theorem reply_mode (h : Header) (code : Byte) (status : ReplyStatus) (data : List Byte) : (reply h code status data p).control.mode = p.control.mode :=
  (reply_leaves p h code status data).2.2.2.2.2.2.2.2.2.1
@[simp] theorem reply_lineStop (h : Header) (code : Byte) (status : ReplyStatus) (data : List Byte) : (reply h code status data p).control.lineStop = p.control.lineStop :=
  (reply_leaves p h code status data).2.2.2.2.2.2.2.2.2.2.1
@[simp] theorem reply_operatorHold (h : Header) (code : Byte) (status : ReplyStatus) (data : List Byte) : (reply h code status data p).control.operatorHold = p.control.operatorHold :=
  (reply_leaves p h code status data).2.2.2.2.2.2.2.2.2.2.2.1
@[simp] theorem reply_fault (h : Header) (code : Byte) (status : ReplyStatus) (data : List Byte) : (reply h code status data p).control.fault = p.control.fault :=
  (reply_leaves p h code status data).2.2.2.2.2.2.2.2.2.2.2.2

theorem takeCandidate_leaves (i : Tag) :
    (takeCandidate i p).port = p.port ∧
      (takeCandidate i p).sampling = p.sampling ∧
      (takeCandidate i p).dose = p.dose ∧
      (takeCandidate i p).monitor = p.monitor ∧
      (takeCandidate i p).log = p.log ∧
      (takeCandidate i p).responder = p.responder ∧
      (takeCandidate i p).loader = p.loader ∧
      (takeCandidate i p).pins = p.pins ∧
      (takeCandidate i p).control.lineStop = p.control.lineStop ∧
      (takeCandidate i p).control.operatorHold = p.control.operatorHold ∧
      (takeCandidate i p).control.fault = p.control.fault := by
  simp only [takeCandidate]
  split <;> simp

@[simp] theorem takeCandidate_port (i : Tag) : (takeCandidate i p).port = p.port :=
  (takeCandidate_leaves p i).1
@[simp] theorem takeCandidate_sampling (i : Tag) : (takeCandidate i p).sampling = p.sampling :=
  (takeCandidate_leaves p i).2.1
@[simp] theorem takeCandidate_dose (i : Tag) : (takeCandidate i p).dose = p.dose :=
  (takeCandidate_leaves p i).2.2.1
@[simp] theorem takeCandidate_monitor (i : Tag) : (takeCandidate i p).monitor = p.monitor :=
  (takeCandidate_leaves p i).2.2.2.1
@[simp] theorem takeCandidate_log (i : Tag) : (takeCandidate i p).log = p.log :=
  (takeCandidate_leaves p i).2.2.2.2.1
@[simp] theorem takeCandidate_responder (i : Tag) : (takeCandidate i p).responder = p.responder :=
  (takeCandidate_leaves p i).2.2.2.2.2.1
@[simp] theorem takeCandidate_loader (i : Tag) : (takeCandidate i p).loader = p.loader :=
  (takeCandidate_leaves p i).2.2.2.2.2.2.1
@[simp] theorem takeCandidate_pins (i : Tag) : (takeCandidate i p).pins = p.pins :=
  (takeCandidate_leaves p i).2.2.2.2.2.2.2.1
@[simp] theorem takeCandidate_lineStop (i : Tag) : (takeCandidate i p).control.lineStop = p.control.lineStop :=
  (takeCandidate_leaves p i).2.2.2.2.2.2.2.2.1
@[simp] theorem takeCandidate_operatorHold (i : Tag) : (takeCandidate i p).control.operatorHold = p.control.operatorHold :=
  (takeCandidate_leaves p i).2.2.2.2.2.2.2.2.2.1
@[simp] theorem takeCandidate_fault (i : Tag) : (takeCandidate i p).control.fault = p.control.fault :=
  (takeCandidate_leaves p i).2.2.2.2.2.2.2.2.2.2

theorem takeEvidence_leaves (h : Header) :
    (takeEvidence h p).sampling = p.sampling ∧
      (takeEvidence h p).dose = p.dose ∧
      (takeEvidence h p).log = p.log ∧
      (takeEvidence h p).responder = p.responder ∧
      (takeEvidence h p).loader = p.loader ∧
      (takeEvidence h p).pins = p.pins ∧
      (takeEvidence h p).control.lineStop = p.control.lineStop ∧
      (takeEvidence h p).control.operatorHold = p.control.operatorHold ∧
      (takeEvidence h p).control.fault = p.control.fault := by
  simp only [takeEvidence]
  repeat' split
  all_goals simp

@[simp] theorem takeEvidence_sampling (h : Header) : (takeEvidence h p).sampling = p.sampling :=
  (takeEvidence_leaves p h).1
@[simp] theorem takeEvidence_dose (h : Header) : (takeEvidence h p).dose = p.dose :=
  (takeEvidence_leaves p h).2.1
@[simp] theorem takeEvidence_log (h : Header) : (takeEvidence h p).log = p.log :=
  (takeEvidence_leaves p h).2.2.1
@[simp] theorem takeEvidence_responder (h : Header) : (takeEvidence h p).responder = p.responder :=
  (takeEvidence_leaves p h).2.2.2.1
@[simp] theorem takeEvidence_loader (h : Header) : (takeEvidence h p).loader = p.loader :=
  (takeEvidence_leaves p h).2.2.2.2.1
@[simp] theorem takeEvidence_pins (h : Header) : (takeEvidence h p).pins = p.pins :=
  (takeEvidence_leaves p h).2.2.2.2.2.1
@[simp] theorem takeEvidence_lineStop (h : Header) : (takeEvidence h p).control.lineStop = p.control.lineStop :=
  (takeEvidence_leaves p h).2.2.2.2.2.2.1
@[simp] theorem takeEvidence_operatorHold (h : Header) : (takeEvidence h p).control.operatorHold = p.control.operatorHold :=
  (takeEvidence_leaves p h).2.2.2.2.2.2.2.1
@[simp] theorem takeEvidence_fault (h : Header) : (takeEvidence h p).control.fault = p.control.fault :=
  (takeEvidence_leaves p h).2.2.2.2.2.2.2.2

theorem lineBusy_leaves :
    (lineBusy p).tracker = p.tracker ∧
      (lineBusy p).sampling = p.sampling ∧
      (lineBusy p).regulator = p.regulator ∧
      (lineBusy p).sequencer = p.sequencer ∧
      (lineBusy p).dose = p.dose ∧
      (lineBusy p).control = p.control ∧
      (lineBusy p).monitor = p.monitor ∧
      (lineBusy p).log = p.log ∧
      (lineBusy p).responder = p.responder ∧
      (lineBusy p).loader = p.loader ∧
      (lineBusy p).pins = p.pins := by
  simp [lineBusy]

@[simp] theorem lineBusy_tracker : (lineBusy p).tracker = p.tracker :=
  (lineBusy_leaves p).1
@[simp] theorem lineBusy_sampling : (lineBusy p).sampling = p.sampling :=
  (lineBusy_leaves p).2.1
@[simp] theorem lineBusy_regulator : (lineBusy p).regulator = p.regulator :=
  (lineBusy_leaves p).2.2.1
@[simp] theorem lineBusy_sequencer : (lineBusy p).sequencer = p.sequencer :=
  (lineBusy_leaves p).2.2.2.1
@[simp] theorem lineBusy_dose : (lineBusy p).dose = p.dose :=
  (lineBusy_leaves p).2.2.2.2.1
@[simp] theorem lineBusy_control : (lineBusy p).control = p.control :=
  (lineBusy_leaves p).2.2.2.2.2.1
@[simp] theorem lineBusy_monitor : (lineBusy p).monitor = p.monitor :=
  (lineBusy_leaves p).2.2.2.2.2.2.1
@[simp] theorem lineBusy_log : (lineBusy p).log = p.log :=
  (lineBusy_leaves p).2.2.2.2.2.2.2.1
@[simp] theorem lineBusy_responder : (lineBusy p).responder = p.responder :=
  (lineBusy_leaves p).2.2.2.2.2.2.2.2.1
@[simp] theorem lineBusy_loader : (lineBusy p).loader = p.loader :=
  (lineBusy_leaves p).2.2.2.2.2.2.2.2.2.1
@[simp] theorem lineBusy_pins : (lineBusy p).pins = p.pins :=
  (lineBusy_leaves p).2.2.2.2.2.2.2.2.2.2

theorem heard_leaves (h : Header) :
    (heard h p).sampling = p.sampling ∧
      (heard h p).dose = p.dose ∧
      (heard h p).log = p.log ∧
      (heard h p).responder = p.responder ∧
      (heard h p).loader = p.loader ∧
      (heard h p).pins = p.pins ∧
      (heard h p).control.lineStop = p.control.lineStop ∧
      (heard h p).control.operatorHold = p.control.operatorHold ∧
      (heard h p).control.fault = p.control.fault := by
  simp [heard]

@[simp] theorem heard_sampling (h : Header) : (heard h p).sampling = p.sampling :=
  (heard_leaves p h).1
@[simp] theorem heard_dose (h : Header) : (heard h p).dose = p.dose :=
  (heard_leaves p h).2.1
@[simp] theorem heard_log (h : Header) : (heard h p).log = p.log :=
  (heard_leaves p h).2.2.1
@[simp] theorem heard_responder (h : Header) : (heard h p).responder = p.responder :=
  (heard_leaves p h).2.2.2.1
@[simp] theorem heard_loader (h : Header) : (heard h p).loader = p.loader :=
  (heard_leaves p h).2.2.2.2.1
@[simp] theorem heard_pins (h : Header) : (heard h p).pins = p.pins :=
  (heard_leaves p h).2.2.2.2.2.1
@[simp] theorem heard_lineStop (h : Header) : (heard h p).control.lineStop = p.control.lineStop :=
  (heard_leaves p h).2.2.2.2.2.2.1
@[simp] theorem heard_operatorHold (h : Header) : (heard h p).control.operatorHold = p.control.operatorHold :=
  (heard_leaves p h).2.2.2.2.2.2.2.1
@[simp] theorem heard_fault (h : Header) : (heard h p).control.fault = p.control.fault :=
  (heard_leaves p h).2.2.2.2.2.2.2.2

end Sys2Proof.Machine
end

