-- ==== Sys2Proof/Laws/Events.lean ====
section
/-! SUPPORT. The end of an event and the outcome of a command, said once: a command from outside acts on the ready part, and an event
whose end finds no arrival ends by `endOf`: a restart that is due, and the outputs. -/

namespace Sys2Proof.Machine

/-- The end of an event would take the entry to OPEN (R122). -/
def arriving (p : Part) : Prop := p.sequencer.platen = .opening ∧ p.pins.openSensor = true ∧ p.loader.phase ≠ .off

theorem arrive_of_not_arriving {p : Part} (h : ¬arriving p) : arrive p = p := by
  unfold arrive; exact if_neg h

theorem restartIfDue_of_noRestart {p : Part} (h : NoRestart p) : restartIfDue p = p := by
  unfold restartIfDue restartDue; rw [show p.responder.pendingRestart = false from h]; rfl

/-- After a reset the port holds nothing but the wait for the quiet that ends a frame on the line (R26). -/
@[simp] theorem resetPart_port (p : Part) : (resetPart p).port = { LinePort.reset with waitQuiet := onLine p } := rfl

/-- A restart performed at the end of an event leaves the reset values, the start sequence begun, with the platen in OPEN where the
open sensor is active (R131, R194). -/
theorem drive_arrive_restartPart (p : Part) : drive (arrive (restartPart p)) = drive (restarted p) := by
  obtain ⟨port, tracker, sampling, regulator, sequencer, dose, control, monitor, log, responder, loader, pins⟩ := p
  obtain ⟨straps, resetInput, stopInput, openSensor, closedSensor⟩ := pins
  cases resetInput <;> cases openSensor <;> rfl

/-- An event whose end finds no arrival performs the restart that is due and drives the outputs. -/
theorem finish_eq_endOf {p : Part} (ha : ¬arriving p) : finish p = endOf p := by
  unfold finish conclude endOf
  rw [arrive_of_not_arriving ha]
  unfold restartIfDue restartDue
  by_cases h : p.responder.pendingRestart = true ∧ p.port.queue.any TxFrame.restartReply = false
  · rw [if_pos h, h.1, h.2]; exact drive_arrive_restartPart p
  · rw [if_neg h, if_neg (by simpa using h), arrive_of_not_arriving ha]

/-- Where no restart waits, the end of an event only drives the outputs. -/
theorem endOf_of_noRestart {p : Part} (h : NoRestart p) : endOf p = drive p := by
  unfold endOf; rw [if_neg]; rw [show p.responder.pendingRestart = false from h]; exact fun x => Bool.noConfusion x.1

/-- Where the reply of the waiting restart is still queued, the end of an event only drives the outputs. -/
theorem endOf_of_queued {p : Part} (h : p.port.queue.any TxFrame.restartReply = true) : endOf p = drive p := by
  unfold endOf; rw [if_neg]; rw [h]; exact fun x => Bool.noConfusion x.2

/-- Where the reply of the waiting restart is gone, the end of an event performs the restart. -/
theorem endOf_of_left {p : Part} (h : p.responder.pendingRestart = true) (hq : p.port.queue.any TxFrame.restartReply = false) :
    endOf p = drive (restarted p) := by
  unfold endOf; rw [if_pos ⟨h, hq⟩]

/-- A dry cycle that begins at an entry to OPEN leaves the platen in SETTLE, CLOSING or OPEN, never in OPENING. -/
theorem beginDue_platen_ne_opening {p : Part} (h : p.sequencer.platen ≠ .opening) :
    (beginDue p).sequencer.platen ≠ .opening := by
  unfold beginDue beginDry settleDry backToOpen closeCommand
  dsimp only
  (repeat' split) <;> simp_all

theorem setMode_platen (m : Mode) (p : Part) : (setMode m p).sequencer.platen = p.sequencer.platen := by
  unfold setMode sequencerOnMode; dsimp only; split <;> rfl

theorem runToHold_platen (p : Part) : (runToHold p).sequencer.platen = p.sequencer.platen := by
  unfold runToHold; split <;> simp [setMode_platen]

theorem stopToHold_platen (p : Part) : (stopToHold p).sequencer.platen = p.sequencer.platen := by
  unfold stopToHold; split <;> simp [setMode_platen]

theorem activateStop_platen (p : Part) : (activateStop p).sequencer.platen = p.sequencer.platen := by
  unfold activateStop; simp [stopToHold_platen]

theorem completeStart_platen (p : Part) : (completeStart p).sequencer.platen = p.sequencer.platen := by
  unfold completeStart; dsimp only; split <;> simp [activateStop_platen, setMode_platen]

/-- The conclusion at an arrival changes neither the platen state nor the loader. -/
theorem concludeArrival_platen (p : Part) : (concludeArrival p).sequencer.platen = p.sequencer.platen := by
  unfold concludeArrival endDry
  dsimp only
  (repeat' split) <;> simp

theorem completeIfWaiting_platen (p : Part) : (completeIfWaiting p).sequencer.platen = p.sequencer.platen := by
  unfold completeIfWaiting; split <;> simp [completeStart_platen]

/-- After the entry to OPEN the platen is not in OPENING (R122). -/
theorem enterOpen_platen_ne_opening (p : Part) : (enterOpen p).sequencer.platen ≠ .opening := by
  unfold enterOpen
  rw [completeIfWaiting_platen]
  refine beginDue_platen_ne_opening ?_
  rw [applyPending_sequencer, concludeArrival_platen]
  exact Platen.noConfusion

/-- The entry to OPEN, once taken, is not taken again. -/
theorem arrive_not_arriving (p : Part) : ¬arriving (arrive p) := by
  unfold arrive
  split
  · exact fun h => enterOpen_platen_ne_opening p h.1
  · assumption

/-- A command from outside finds no arrival waiting. -/
theorem ready_not_arriving (p : Part) : ¬arriving (ready p) := by
  unfold ready conclude; exact arrive_not_arriving _

/-- The end of every event: the entry to OPEN once, and what ends the event after it. -/
theorem finish_eq (p : Part) : finish p = endOf (arrive p) := by
  rw [← finish_eq_endOf (arrive_not_arriving p)]
  unfold finish conclude
  rw [arrive_of_not_arriving (arrive_not_arriving p)]

/-- Evidence moves no platen. -/
theorem takeEvidence_platen (h : Header) (p : Part) :
    (takeEvidence h p).sequencer.platen = p.sequencer.platen := by
  unfold takeEvidence takeCandidate enterAligned
  dsimp only
  (repeat' split) <;> simp [setMode_platen]

/-- A frame that is heard brings no arrival about. -/
theorem heard_not_arriving {h : Header} {p : Part} (ha : ¬arriving p) : ¬arriving (heard h p) := by
  intro x
  refine ha ⟨?_, ?_, ?_⟩
  · have := x.1; unfold heard at this; rw [takeEvidence_platen] at this; simpa using this
  · simpa using x.2.1
  · simpa using x.2.2

/-- An admitted frame's payload is handled on the heard part (R23 to R25). -/
theorem arrival_of_admitted {h : Header} {p : Part} (f : Part → Part) (ha : Admitted h p) :
    arrival h f p = f (heard h p) := by
  unfold arrival receive heard
  rw [if_pos ha.1, if_neg ha.2.1, if_neg]
  have : ownStation (lineBusy p) = ownStation p := rfl
  rw [this]; exact ha.2.2

/-- Where platen, open sensor and start phase are kept, no arrival comes about. -/
theorem not_arriving_of_same {p q : Part} (h : ¬arriving p) (platen : q.sequencer.platen = p.sequencer.platen)
    (sensor : q.pins.openSensor = p.pins.openSensor) (phase : q.loader.phase = p.loader.phase) : ¬arriving q :=
  fun x => h ⟨platen ▸ x.1, sensor ▸ x.2.1, phase ▸ x.2.2⟩

/-- The part that a command finds has no arrival before it. -/
theorem finds_not_arriving {s : State} {r : Part} (h : Finds s r) : ¬arriving r := h ▸ ready_not_arriving s.part

/-- The part that a frame's payload finds has no arrival before it. -/
theorem hears_not_arriving {h : Header} {s : State} {r : Part} (x : Hears h s r) : ¬arriving r :=
  x.2 ▸ heard_not_arriving (ready_not_arriving s.part)

/-- A command from outside, by its effect on the part it finds. -/
theorem takes_of_run_finish {c : Instr} {f : Part → Part} {s : State} {r q : Part} (he : exec c s = run f s) (hr : Finds s r)
    (hf : f r = q) : Takes c s (finish q) := by
  subst hr; subst hf; exact he

/-- A command from outside that brings no arrival about. -/
theorem takes_of_run {c : Instr} {f : Part → Part} {s : State} {r q : Part} (he : exec c s = run f s) (hr : Finds s r)
    (hf : f r = q) (ha : ¬arriving q) : Takes c s (endOf q) :=
  finish_eq_endOf ha ▸ takes_of_run_finish he hr hf

/-- A frame, by what its payload does to the part it finds. -/
theorem takes_of_hears_finish {c : Instr} {f : Part → Part} {h : Header} {s : State} {r q : Part}
    (he : exec c s = run (arrival h f) s) (hr : Hears h s r) (hf : f r = q) : Takes c s (finish q) :=
  takes_of_run_finish he rfl ((arrival_of_admitted f hr.1).trans (hr.2 ▸ hf))

/-- A frame whose payload brings no arrival about. -/
theorem takes_of_hears {c : Instr} {f : Part → Part} {h : Header} {s : State} {r q : Part}
    (he : exec c s = run (arrival h f) s) (hr : Hears h s r) (hf : f r = q) (ha : ¬arriving q) : Takes c s (endOf q) :=
  finish_eq_endOf ha ▸ takes_of_hears_finish he hr hf

/-- A due event that brings no arrival about, by its effect. -/
theorem takes_of_runDue {c : Instr} {f : Part → Part} {s : State} {q : Part} (he : exec c s = runDue f s)
    (hf : f s.part = q) (ha : ¬arriving q) : Takes c s (endOf q) := by
  subst hf; unfold Takes; rw [he, ← finish_eq_endOf ha]; rfl

/-- Every command gives a next state with the waiting commands kept. -/
theorem exec_takes (c : Instr) (s : State) : ∃ t, exec c s = .next { s with part := t } := by
  cases c <;> exact ⟨_, rfl⟩

end Sys2Proof.Machine
end

