-- ==== Sys2Proof/Laws/State.lean ====
section
/-! SUPPORT. What each named update of the state reads as, field by field: the field it writes, and every block it leaves. -/

namespace Sys2Proof.Machine

variable (p : Part)

/-! ## The field written -/

@[simp] theorem withQueue_queue (q : List TxFrame) : (withQueue q p).port.queue = q := rfl
@[simp] theorem withQueue_quiet (q : List TxFrame) : (withQueue q p).port.quiet = p.port.quiet := rfl
@[simp] theorem withQueue_waitQuiet (q : List TxFrame) : (withQueue q p).port.waitQuiet = p.port.waitQuiet := rfl
@[simp] theorem withQueue_clashCount (q : List TxFrame) : (withQueue q p).port.clashCount = p.port.clashCount := rfl
@[simp] theorem lineBusy_quiet : (lineBusy p).port.quiet = false := rfl
@[simp] theorem lineBusy_receiving : (lineBusy p).port.receiving = false := rfl
@[simp] theorem lineBusy_queue : (lineBusy p).port.queue = p.port.queue := rfl
@[simp] theorem startReception_receiving : (startReception p).port.receiving = true := rfl
@[simp] theorem startReception_queue : (startReception p).port.queue = p.port.queue := rfl
@[simp] theorem endReception_receiving : (endReception p).port.receiving = false := rfl
@[simp] theorem endReception_queue : (endReception p).port.queue = p.port.queue := rfl
@[simp] theorem awaitQuiet_waitQuiet : (awaitQuiet p).port.waitQuiet = true := rfl
@[simp] theorem awaitQuiet_queue : (awaitQuiet p).port.queue = p.port.queue := rfl
@[simp] theorem withRecords_records (rs : List RowRecord) : (withRecords rs p).tracker.records = rs := rfl
@[simp] theorem withRecords_h (rs : List RowRecord) : (withRecords rs p).tracker.h = p.tracker.h := rfl
@[simp] theorem withRecords_skew (rs : List RowRecord) : (withRecords rs p).tracker.skew = p.tracker.skew := rfl
@[simp] theorem clearChatter_chatter : (clearChatter p).tracker.chatter = false := rfl
@[simp] theorem clearChatter_records : (clearChatter p).tracker.records = p.tracker.records := rfl
@[simp] theorem clearChatter_h : (clearChatter p).tracker.h = p.tracker.h := rfl
@[simp] theorem raise_alarms (a : Alarm) : (raise a p).control.alarms = p.control.alarms ||| alarmWord a := rfl
@[simp] theorem count_monitor (e : Event) : (count e p).monitor = occur e 1 p.monitor := rfl
@[simp] theorem setLineStop_flag : (setLineStop p).control.lineStop = true := rfl
@[simp] theorem clearLineStop_flag : (clearLineStop p).control.lineStop = false := rfl
@[simp] theorem setIdle_idle : (setIdle p).regulator.idle = true := rfl
@[simp] theorem restartIdle_idle : (restartIdle p).regulator.idle = false := rfl
@[simp] theorem restartIdle_clock : (restartIdle p).regulator.idleClock = 0 := rfl
@[simp] theorem drive_driven : (drive p).pins = drivenPins p := rfl
@[simp] theorem setOpenSensor_level (b : Bool) : (setOpenSensor b p).pins.openSensor = b := rfl
@[simp] theorem setClosedSensor_level (b : Bool) : (setClosedSensor b p).pins.closedSensor = b := rfl
@[simp] theorem setStraps_straps (x : BitVec 5) : (setStraps x p).pins.straps = x := rfl
@[simp] theorem holdSnapshot_snapshot (x : Option (List Counter)) : (holdSnapshot x p).monitor.snapshot = x := rfl
@[simp] theorem holdSnapshot_counters (x : Option (List Counter)) : (holdSnapshot x p).monitor.counters = p.monitor.counters :=
  rfl
@[simp] theorem setFrozen_frozen (x : Option FreezeCause) : (setFrozen x p).monitor.frozen = x := rfl
@[simp] theorem setFrozen_counters (x : Option FreezeCause) : (setFrozen x p).monitor.counters = p.monitor.counters := rfl
@[simp] theorem writeControl_counters (i : Nat) (k : Control) : (writeControl i k p).monitor.counters = p.monitor.counters := rfl
@[simp] theorem setOperatorHold_flag (b : Bool) : (setOperatorHold b p).control.operatorHold = b := rfl
@[simp] theorem setOperatorHold_mode (b : Bool) : (setOperatorHold b p).control.mode = p.control.mode := rfl
@[simp] theorem setOperatorHold_lineStop (b : Bool) : (setOperatorHold b p).control.lineStop = p.control.lineStop := rfl

/-! ## The blocks left -/

@[simp] theorem startReception_tracker : (startReception p).tracker = p.tracker := rfl
@[simp] theorem startReception_sampling : (startReception p).sampling = p.sampling := rfl
@[simp] theorem startReception_regulator : (startReception p).regulator = p.regulator := rfl
@[simp] theorem startReception_sequencer : (startReception p).sequencer = p.sequencer := rfl
@[simp] theorem startReception_dose : (startReception p).dose = p.dose := rfl
@[simp] theorem startReception_control : (startReception p).control = p.control := rfl
@[simp] theorem startReception_monitor : (startReception p).monitor = p.monitor := rfl
@[simp] theorem startReception_log : (startReception p).log = p.log := rfl
@[simp] theorem startReception_responder : (startReception p).responder = p.responder := rfl
@[simp] theorem startReception_loader : (startReception p).loader = p.loader := rfl
@[simp] theorem startReception_pins : (startReception p).pins = p.pins := rfl

@[simp] theorem endReception_tracker : (endReception p).tracker = p.tracker := rfl
@[simp] theorem endReception_sampling : (endReception p).sampling = p.sampling := rfl
@[simp] theorem endReception_regulator : (endReception p).regulator = p.regulator := rfl
@[simp] theorem endReception_sequencer : (endReception p).sequencer = p.sequencer := rfl
@[simp] theorem endReception_dose : (endReception p).dose = p.dose := rfl
@[simp] theorem endReception_control : (endReception p).control = p.control := rfl
@[simp] theorem endReception_monitor : (endReception p).monitor = p.monitor := rfl
@[simp] theorem endReception_log : (endReception p).log = p.log := rfl
@[simp] theorem endReception_responder : (endReception p).responder = p.responder := rfl
@[simp] theorem endReception_loader : (endReception p).loader = p.loader := rfl
@[simp] theorem endReception_pins : (endReception p).pins = p.pins := rfl

@[simp] theorem awaitQuiet_tracker : (awaitQuiet p).tracker = p.tracker := rfl
@[simp] theorem awaitQuiet_sampling : (awaitQuiet p).sampling = p.sampling := rfl
@[simp] theorem awaitQuiet_regulator : (awaitQuiet p).regulator = p.regulator := rfl
@[simp] theorem awaitQuiet_sequencer : (awaitQuiet p).sequencer = p.sequencer := rfl
@[simp] theorem awaitQuiet_dose : (awaitQuiet p).dose = p.dose := rfl
@[simp] theorem awaitQuiet_control : (awaitQuiet p).control = p.control := rfl
@[simp] theorem awaitQuiet_monitor : (awaitQuiet p).monitor = p.monitor := rfl
@[simp] theorem awaitQuiet_log : (awaitQuiet p).log = p.log := rfl
@[simp] theorem awaitQuiet_responder : (awaitQuiet p).responder = p.responder := rfl
@[simp] theorem awaitQuiet_loader : (awaitQuiet p).loader = p.loader := rfl
@[simp] theorem awaitQuiet_pins : (awaitQuiet p).pins = p.pins := rfl

@[simp] theorem setOpenSensor_port (b : Bool) : (setOpenSensor b p).port = p.port := rfl
@[simp] theorem setOpenSensor_tracker (b : Bool) : (setOpenSensor b p).tracker = p.tracker := rfl
@[simp] theorem setOpenSensor_sampling (b : Bool) : (setOpenSensor b p).sampling = p.sampling := rfl
@[simp] theorem setOpenSensor_regulator (b : Bool) : (setOpenSensor b p).regulator = p.regulator := rfl
@[simp] theorem setOpenSensor_sequencer (b : Bool) : (setOpenSensor b p).sequencer = p.sequencer := rfl
@[simp] theorem setOpenSensor_dose (b : Bool) : (setOpenSensor b p).dose = p.dose := rfl
@[simp] theorem setOpenSensor_control (b : Bool) : (setOpenSensor b p).control = p.control := rfl
@[simp] theorem setOpenSensor_monitor (b : Bool) : (setOpenSensor b p).monitor = p.monitor := rfl
@[simp] theorem setOpenSensor_log (b : Bool) : (setOpenSensor b p).log = p.log := rfl
@[simp] theorem setOpenSensor_responder (b : Bool) : (setOpenSensor b p).responder = p.responder := rfl
@[simp] theorem setOpenSensor_loader (b : Bool) : (setOpenSensor b p).loader = p.loader := rfl

@[simp] theorem setClosedSensor_port (b : Bool) : (setClosedSensor b p).port = p.port := rfl
@[simp] theorem setClosedSensor_tracker (b : Bool) : (setClosedSensor b p).tracker = p.tracker := rfl
@[simp] theorem setClosedSensor_sampling (b : Bool) : (setClosedSensor b p).sampling = p.sampling := rfl
@[simp] theorem setClosedSensor_regulator (b : Bool) : (setClosedSensor b p).regulator = p.regulator := rfl
@[simp] theorem setClosedSensor_sequencer (b : Bool) : (setClosedSensor b p).sequencer = p.sequencer := rfl
@[simp] theorem setClosedSensor_dose (b : Bool) : (setClosedSensor b p).dose = p.dose := rfl
@[simp] theorem setClosedSensor_control (b : Bool) : (setClosedSensor b p).control = p.control := rfl
@[simp] theorem setClosedSensor_monitor (b : Bool) : (setClosedSensor b p).monitor = p.monitor := rfl
@[simp] theorem setClosedSensor_log (b : Bool) : (setClosedSensor b p).log = p.log := rfl
@[simp] theorem setClosedSensor_responder (b : Bool) : (setClosedSensor b p).responder = p.responder := rfl
@[simp] theorem setClosedSensor_loader (b : Bool) : (setClosedSensor b p).loader = p.loader := rfl

@[simp] theorem setStraps_port (x : BitVec 5) : (setStraps x p).port = p.port := rfl
@[simp] theorem setStraps_tracker (x : BitVec 5) : (setStraps x p).tracker = p.tracker := rfl
@[simp] theorem setStraps_sampling (x : BitVec 5) : (setStraps x p).sampling = p.sampling := rfl
@[simp] theorem setStraps_regulator (x : BitVec 5) : (setStraps x p).regulator = p.regulator := rfl
@[simp] theorem setStraps_sequencer (x : BitVec 5) : (setStraps x p).sequencer = p.sequencer := rfl
@[simp] theorem setStraps_dose (x : BitVec 5) : (setStraps x p).dose = p.dose := rfl
@[simp] theorem setStraps_control (x : BitVec 5) : (setStraps x p).control = p.control := rfl
@[simp] theorem setStraps_monitor (x : BitVec 5) : (setStraps x p).monitor = p.monitor := rfl
@[simp] theorem setStraps_log (x : BitVec 5) : (setStraps x p).log = p.log := rfl
@[simp] theorem setStraps_responder (x : BitVec 5) : (setStraps x p).responder = p.responder := rfl
@[simp] theorem setStraps_loader (x : BitVec 5) : (setStraps x p).loader = p.loader := rfl

@[simp] theorem holdSnapshot_port (x : Option (List Counter)) : (holdSnapshot x p).port = p.port := rfl
@[simp] theorem holdSnapshot_tracker (x : Option (List Counter)) : (holdSnapshot x p).tracker = p.tracker := rfl
@[simp] theorem holdSnapshot_sampling (x : Option (List Counter)) : (holdSnapshot x p).sampling = p.sampling := rfl
@[simp] theorem holdSnapshot_regulator (x : Option (List Counter)) : (holdSnapshot x p).regulator = p.regulator := rfl
@[simp] theorem holdSnapshot_sequencer (x : Option (List Counter)) : (holdSnapshot x p).sequencer = p.sequencer := rfl
@[simp] theorem holdSnapshot_dose (x : Option (List Counter)) : (holdSnapshot x p).dose = p.dose := rfl
@[simp] theorem holdSnapshot_control (x : Option (List Counter)) : (holdSnapshot x p).control = p.control := rfl
@[simp] theorem holdSnapshot_log (x : Option (List Counter)) : (holdSnapshot x p).log = p.log := rfl
@[simp] theorem holdSnapshot_responder (x : Option (List Counter)) : (holdSnapshot x p).responder = p.responder := rfl
@[simp] theorem holdSnapshot_loader (x : Option (List Counter)) : (holdSnapshot x p).loader = p.loader := rfl
@[simp] theorem holdSnapshot_pins (x : Option (List Counter)) : (holdSnapshot x p).pins = p.pins := rfl

@[simp] theorem writeControl_port (i : Nat) (k : Control) : (writeControl i k p).port = p.port := rfl
@[simp] theorem writeControl_tracker (i : Nat) (k : Control) : (writeControl i k p).tracker = p.tracker := rfl
@[simp] theorem writeControl_sampling (i : Nat) (k : Control) : (writeControl i k p).sampling = p.sampling := rfl
@[simp] theorem writeControl_regulator (i : Nat) (k : Control) : (writeControl i k p).regulator = p.regulator := rfl
@[simp] theorem writeControl_sequencer (i : Nat) (k : Control) : (writeControl i k p).sequencer = p.sequencer := rfl
@[simp] theorem writeControl_dose (i : Nat) (k : Control) : (writeControl i k p).dose = p.dose := rfl
@[simp] theorem writeControl_control (i : Nat) (k : Control) : (writeControl i k p).control = p.control := rfl
@[simp] theorem writeControl_log (i : Nat) (k : Control) : (writeControl i k p).log = p.log := rfl
@[simp] theorem writeControl_responder (i : Nat) (k : Control) : (writeControl i k p).responder = p.responder := rfl
@[simp] theorem writeControl_loader (i : Nat) (k : Control) : (writeControl i k p).loader = p.loader := rfl
@[simp] theorem writeControl_pins (i : Nat) (k : Control) : (writeControl i k p).pins = p.pins := rfl

@[simp] theorem setFrozen_port (x : Option FreezeCause) : (setFrozen x p).port = p.port := rfl
@[simp] theorem setFrozen_tracker (x : Option FreezeCause) : (setFrozen x p).tracker = p.tracker := rfl
@[simp] theorem setFrozen_sampling (x : Option FreezeCause) : (setFrozen x p).sampling = p.sampling := rfl
@[simp] theorem setFrozen_regulator (x : Option FreezeCause) : (setFrozen x p).regulator = p.regulator := rfl
@[simp] theorem setFrozen_sequencer (x : Option FreezeCause) : (setFrozen x p).sequencer = p.sequencer := rfl
@[simp] theorem setFrozen_dose (x : Option FreezeCause) : (setFrozen x p).dose = p.dose := rfl
@[simp] theorem setFrozen_control (x : Option FreezeCause) : (setFrozen x p).control = p.control := rfl
@[simp] theorem setFrozen_log (x : Option FreezeCause) : (setFrozen x p).log = p.log := rfl
@[simp] theorem setFrozen_responder (x : Option FreezeCause) : (setFrozen x p).responder = p.responder := rfl
@[simp] theorem setFrozen_loader (x : Option FreezeCause) : (setFrozen x p).loader = p.loader := rfl
@[simp] theorem setFrozen_pins (x : Option FreezeCause) : (setFrozen x p).pins = p.pins := rfl

@[simp] theorem setOperatorHold_port (b : Bool) : (setOperatorHold b p).port = p.port := rfl
@[simp] theorem setOperatorHold_tracker (b : Bool) : (setOperatorHold b p).tracker = p.tracker := rfl
@[simp] theorem setOperatorHold_sampling (b : Bool) : (setOperatorHold b p).sampling = p.sampling := rfl
@[simp] theorem setOperatorHold_regulator (b : Bool) : (setOperatorHold b p).regulator = p.regulator := rfl
@[simp] theorem setOperatorHold_sequencer (b : Bool) : (setOperatorHold b p).sequencer = p.sequencer := rfl
@[simp] theorem setOperatorHold_dose (b : Bool) : (setOperatorHold b p).dose = p.dose := rfl
@[simp] theorem setOperatorHold_monitor (b : Bool) : (setOperatorHold b p).monitor = p.monitor := rfl
@[simp] theorem setOperatorHold_log (b : Bool) : (setOperatorHold b p).log = p.log := rfl
@[simp] theorem setOperatorHold_responder (b : Bool) : (setOperatorHold b p).responder = p.responder := rfl
@[simp] theorem setOperatorHold_loader (b : Bool) : (setOperatorHold b p).loader = p.loader := rfl
@[simp] theorem setOperatorHold_pins (b : Bool) : (setOperatorHold b p).pins = p.pins := rfl

end Sys2Proof.Machine
end

