-- ==== Sys2Proof/Laws/Operations.lean ====
section
/-! SUPPORT. What each shared list operation and counting operation gives, element by element; these are cited in place of
unfolding. -/

namespace Sys2Proof.Machine

/-! ## Lists by place -/

theorem mapFrom_getElem? {α β : Type} (f : Nat → α → β) (n : Nat) (l : List α) (i : Nat) :
    (mapFrom f n l)[i]? = l[i]?.map (f (n + i)) := by
  induction l generalizing n i with
  | nil => simp [mapFrom]
  | cons x l ih =>
    cases i with
    | zero => simp [mapFrom]
    | succ i =>
      rw [mapFrom, List.getElem?_cons_succ, List.getElem?_cons_succ, ih, Nat.add_assoc, Nat.add_comm 1 i]

@[simp] theorem mapIndexed_getElem? {α β : Type} (f : Nat → α → β) (l : List α) (i : Nat) :
    (mapIndexed f l)[i]? = l[i]?.map (f i) := by
  unfold mapIndexed; rw [mapFrom_getElem?, Nat.zero_add]

theorem mapFrom_length {α β : Type} (f : Nat → α → β) (n : Nat) (l : List α) : (mapFrom f n l).length = l.length := by
  induction l generalizing n with
  | nil => rfl
  | cons x l ih => simp [mapFrom, ih]

@[simp] theorem mapIndexed_length {α β : Type} (f : Nat → α → β) (l : List α) : (mapIndexed f l).length = l.length :=
  mapFrom_length f 0 l

/-- Every element of the list through f has the property when f gives it at every place. -/
theorem forall_mapIndexed {α β : Type} {f : Nat → α → β} {l : List α} {P : β → Prop} (h : ∀ i x, x ∈ l → P (f i x)) :
    ∀ y ∈ mapIndexed f l, P y := by
  intro y hy
  obtain ⟨i, hi⟩ := List.mem_iff_getElem?.1 hy
  rw [mapIndexed_getElem?] at hi
  cases hx : l[i]? with
  | none => rw [hx] at hi; simp at hi
  | some x =>
    rw [hx] at hi
    simp only [Option.map_some, Option.some.injEq] at hi
    exact hi ▸ h i x (List.mem_of_getElem? hx)

theorem updateAt_getElem? {α : Type} (l : List α) (i j : Nat) (f : α → α) :
    (updateAt l i f)[j]? = if j = i then l[j]?.map f else l[j]? := by
  induction l generalizing i j with
  | nil => simp [updateAt]
  | cons x l ih =>
    cases i with
    | zero => cases j <;> simp [updateAt]
    | succ i =>
      cases j with
      | zero => simp [updateAt]
      | succ j => simp [updateAt, ih]

@[simp] theorem updateAt_length {α : Type} (l : List α) (i : Nat) (f : α → α) : (updateAt l i f).length = l.length := by
  induction l generalizing i with
  | nil => rfl
  | cons x l ih => cases i <;> simp [updateAt, ih]

/-- The element after a first part of the list is the one updated. -/
theorem updateAt_append {α : Type} (a b : List α) (x : α) (f : α → α) : updateAt (a ++ x :: b) a.length f = a ++ f x :: b := by
  induction a with
  | nil => rfl
  | cons y a ih => simp [updateAt, ih]

/-! ## The transmit queue -/

/-- A frame stands behind every frame of a priority value up to its own and ahead of the rest (R20). -/
theorem place_append (f : TxFrame) (c d : List TxFrame) (hc : ∀ x ∈ c, priority x.body ≤ priority f.body)
    (hd : ∀ x ∈ d, priority f.body < priority x.body) : place f (c ++ d) = c ++ f :: d := by
  induction c with
  | nil =>
    cases d with
    | nil => rfl
    | cons x d => exact if_neg (Nat.not_le.2 (hd x List.mem_cons_self))
  | cons x c ih =>
    have h := hc x List.mem_cons_self
    simp only [place, List.cons_append, h, if_true]
    rw [ih fun y hy => hc y (List.mem_cons_of_mem x hy)]

theorem place_length (f : TxFrame) (q : List TxFrame) : (place f q).length = q.length + 1 := by
  induction q with
  | nil => rfl
  | cons x q ih => unfold place; split <;> simp [ih]

theorem mem_place (f g : TxFrame) (q : List TxFrame) : g ∈ place f q ↔ g = f ∨ g ∈ q := by
  induction q with
  | nil => simp [place]
  | cons x q ih => unfold place; split <;> simp [ih, or_left_comm]

/-- Placing keeps a queue in order of priority (R20). -/
theorem place_sorted (f : TxFrame) (q : List TxFrame) (h : q.Pairwise (fun x y => priority x.body ≤ priority y.body)) :
    (place f q).Pairwise (fun x y => priority x.body ≤ priority y.body) := by
  induction q with
  | nil => simp [place]
  | cons x q ih =>
    have hx := (List.pairwise_cons.1 h).1
    unfold place; split
    · rename_i hp
      refine List.pairwise_cons.2 ⟨fun y hy => ?_, ih h.of_cons⟩
      rcases (mem_place f y q).1 hy with rfl | hy
      · exact hp
      · exact hx y hy
    · rename_i hp
      refine List.pairwise_cons.2 ⟨fun y hy => ?_, h⟩
      rcases List.mem_cons.1 hy with rfl | hy
      · omega
      · have := hx y hy; omega

/-! ## Counters -/

@[simp] theorem addTo_zero (c : Counter) : addTo c 0 = c := if_pos rfl

/-- An addition stays below 2^40 (R172). -/
theorem addTo_value_lt (c : Counter) (n : Nat) (h : c.value < counterModulus) : (addTo c n).value < counterModulus := by
  unfold addTo; split
  · exact h
  · split
    · assumption
    · exact Nat.mod_lt _ (by decide)

theorem addEach_length (f : Control → Nat) (ks : List Control) (cs : List Counter) : (addEach f ks cs).length = cs.length := by
  induction ks generalizing cs with
  | nil => rfl
  | cons k ks ih => cases cs <;> simp [addEach, ih]

/-- The counter at the place of a control adds what that control gives. -/
theorem addEach_getElem? (f : Control → Nat) (ks : List Control) (cs : List Counter) (i : Nat) :
    (addEach f ks cs)[i]? =
      match ks[i]? with
      | some k => cs[i]?.map (fun c => addTo c (f k))
      | none => cs[i]? := by
  induction ks generalizing cs i with
  | nil => simp [addEach]
  | cons k ks ih =>
    cases cs with
    | nil => cases (k :: ks)[i]? <;> simp [addEach]
    | cons c cs => cases i <;> simp [addEach, ih]

/-- An event changes counters alone, and none while frozen (R179). -/
theorem addAll_leaves (f : Control → Nat) (m : Monitor) :
    (addAll f m).controls = m.controls ∧ (addAll f m).frozen = m.frozen ∧ (addAll f m).snapshot = m.snapshot ∧
      (m.frozen ≠ none → addAll f m = m) := by
  unfold addAll
  cases h : m.frozen <;> simp [h]

/-! ## Readings, conditions and log entries -/

/-- Of the readings carried, 2^a are made, or all there are (R74). -/
@[simp] theorem made_length {α : Type} (c : Configuration) (readings : List α) :
    (made c readings).length = min (2 ^ c.averaging) readings.length := List.length_take

/-- Taking conditions leaves the freeze and the snapshot; the edge memories take them, and no counter adds while frozen (R177, R179). -/
theorem takeConditions_leaves (f : Control → Option Bool) (m : Monitor) :
    (takeConditions f m).controls = m.controls.map (fun t => rememberCondition (f t) t) ∧
      (takeConditions f m).frozen = m.frozen ∧ (takeConditions f m).snapshot = m.snapshot ∧
      (m.frozen ≠ none → (takeConditions f m).counters = m.counters) := by
  obtain ⟨hc, hf, hs, hz⟩ := addAll_leaves (fun t => conditionAmount (f t) t) m
  exact ⟨congrArg _ hc, hf, hs, fun h => show (addAll _ m).counters = _ by rw [hz h]⟩

/-- A cycle's entry is handed to the log as the rules give it (R29, R183, R184). -/
theorem logCycle_logged {x : LogEntry} {p : Part} {tag : Tag} {dry aborted forced : Bool} (h : EntryIs x p tag dry aborted forced) :
    LoggedIn (logCycle tag dry aborted forced p).log x p := by
  have hx : x = logEntryOf tag dry aborted forced p := by
    rw [show x = _ from h]; unfold logEntryOf
    congr 1
    exact List.map_congr_left fun i _ => by
      unfold logLane logLift; split <;> [(cases (laneDose p i).lift <;> rfl); rfl]
  rw [hx]
  unfold LoggedIn logCycle addEntry
  by_cases hl : p.log.entries.length < 64
  · rw [if_pos hl, if_pos (show (clearChatter p).log.entries.length < 64 from hl)]; rfl
  · rw [if_neg hl, if_neg (show ¬(clearChatter p).log.entries.length < 64 from hl)]; rfl

/-! ## The dose -/

theorem accumulate_le (acc inc : Nat) : accumulate acc inc ≤ 1048575 := Nat.min_le_left _ _

theorem saturate16_le (x : Nat) : saturate16 x ≤ 65535 := Nat.min_le_left _ _

theorem contactWeight_le (c : Configuration) (pressure : Nat) : contactWeight c pressure ≤ 256 := by
  unfold contactWeight; split
  · exact Nat.zero_le _
  · exact Nat.min_le_left _ _

/-! ## The travel queue -/

@[simp] theorem windowTags_length (h : Tag) : (windowTags h).length = 48 := by simp [windowTags]

/-- A new travel queue holds the window's tags (R35). -/
theorem freshQueue_tags (c : Configuration) (h : Tag) : (freshQueue c h).map RowRecord.tag = windowTags h := by
  unfold freshQueue
  rw [List.map_map]
  exact List.map_id _

/-- Changing records by a function that keeps tags keeps the queue's tags. -/
theorem tags_of_map {f : RowRecord → RowRecord} (hf : ∀ r, (f r).tag = r.tag) (rs : List RowRecord) :
    (rs.map f).map RowRecord.tag = rs.map RowRecord.tag := by
  rw [List.map_map]; exact List.map_congr_left fun r _ => hf r

end Sys2Proof.Machine
end

