-- ==== Sys2Proof/WellFormed.lean ====
section
/-! DEFINITION. Which commands the hardware can be given: operands within the ranges of their rules. The meanings are total on any
operands; this says which operands the spec speaks of. -/

namespace Sys2Proof

/-- A payload on the wire has at most 32 bytes (R5). -/
def payloadFits (payload : List Byte) : Bool := decide (payload.length ≤ 32)

/-- The arguments of a request follow its target and code in the payload (R5, R11). -/
def argsFit (args : List Byte) : Bool := decide (args.length ≤ 30)

/-- A thermocouple conversion lies in −512 to 2047 qd (R74). -/
def Conversion.wf (x : Conversion) : Bool := decide (-512 ≤ x.reading) && decide (x.reading ≤ 2047)

/-- A tick carries eight readings of each channel, of which the first 2^a are the conversions made (R74; log 44). -/
def eightReadings (n : Nat) : Bool := n == 8

/-- The readings of one channel in one tick (R74). -/
def conversionsFit (xs : List Conversion) : Bool := eightReadings xs.length && xs.all Conversion.wf

/-- A pressure or reference conversion is a 12-bit count (R74, R86). -/
def countsFit (xs : List Nat) : Bool := xs.all (fun x => decide (x ≤ 4095))

/-- The conversions of one tick: eight thermocouple channels and the pressure channel, each with eight readings (R74), and
conversions of the reference where a check runs (R86). -/
def Conversions.wf (x : Conversions) : Bool :=
  x.thermo.length == 8 && x.thermo.all conversionsFit && eightReadings x.pressure.length && countsFit x.pressure &&
    countsFit x.reference && decide (0 < x.reference.length)

/-- The bits of the largest frame after its start mark, with stuff bits (R3, R5). -/
def longestTail : Nat := 352

/-- The lane or channel is one of eight. -/
def oneOfEight (n : Nat) : Bool := decide (n < 8)

/-- The command's operands lie within the ranges of their rules. -/
def Instr.wf (i : Instr) : Bool :=
  match i with
  | .powerOn => true
  | .resetInput => true
  | .resetRelease => true
  | .crystalRunning => true
  | .crystalWaitExpiry => true
  | .configBlockRead read => decide (read.bytes.length ≤ read.endAddr.toNat - read.startAddr.toNat + 1)
  | .startOpenTimeout => true
  | .strapChange _ => true
  | .quietDeclaration => true
  | .frameSent => true
  | .arbLost bit => decide (bit < 21)
  | .clash bit => decide (bit < 8 + longestTail)
  | .serviceReplyExpiry => true
  | .frameBadCheck bits => decide (bits.length ≤ longestTail)
  | .ownStationFrame => true
  | .rowVerdict _ payload => payloadFits payload
  | .sealReport _ payload => payloadFits payload
  | .voidNotice _ payload => payloadFits payload
  | .drawNotice _ payload => payloadFits payload
  | .lineStateStop _ payload => payloadFits payload
  | .lineStateRun _ payload => payloadFits payload
  | .serviceReply _ payload => payloadFits payload
  | .unknownKind kind _ payload => payloadFits payload && !([2, 4, 6, 7, 10, 20, 21].contains kind.toNat)
  | .serviceRequestNotAddressed _ payload => payloadFits payload
  | .unknownRequest code _ args => argsFit args && (code == 0 || decide (20 < code.toNat))
  | .status _ args => argsFit args
  | .readCountersA _ args => argsFit args
  | .readCountersB _ args => argsFit args
  | .setCounter _ args => argsFit args
  | .freeze _ args => argsFit args
  | .thaw _ args => argsFit args
  | .clearCounters _ args => argsFit args
  | .readLogA _ args => argsFit args
  | .readLogB _ args => argsFit args
  | .readRow _ args => argsFit args
  | .readConfig _ args => argsFit args
  | .clearAlarms _ args => argsFit args
  | .clearFault _ args => argsFit args
  | .hold _ args => argsFit args
  | .release _ args => argsFit args
  | .resync _ args => argsFit args
  | .refCheck _ args => argsFit args
  | .dryStart _ args => argsFit args
  | .dryStop _ args => argsFit args
  | .restart _ args => argsFit args
  | .indexEdge _ => true
  | .settleEnd => true
  | .sampleTick conv => conv.wf
  | .openRecovery channel conv => oneOfEight channel && conversionsFit conv
  | .lagEnd lane => oneOfEight lane
  | .dwellLimit => true
  | .dryLiftCommand lane => oneOfEight lane
  | .dryDwellEnd => true
  | .closeTimeout => true
  | .openTimeout => true
  | .openSensorActive => true
  | .openSensorInactive => true
  | .closedSensorChange _ => true
  | .stopInputActivation => true
  | .stopInputRelease => true
  | .dryPeriodExpiry => true
  | .refCheckEnd => true
  | .regulationPeriodEnd => true
  | .budgetPeriodEnd => true
  | .heaterOnTimeEnd lane => oneOfEight lane
  | .idleTimeout => true
  | .startMarkRefused _ => true

end Sys2Proof
end

