-- ==== Sys2Proof/Tests/Slice0.lean ====
section
/-! SUPPORT. Tests: refused ill-formed commands, the manual's worked cases, and for each statement with hypotheses a state and operands
that meet them. -/

namespace Sys2Proof.Tests

-- One test at a time: elaborated side by side, the kernel evaluations below wait on one another in a thread each.
set_option Elab.async false

open Sys2Proof Sys2Proof.Machine

/-! ## Ill-formed commands are refused -/

def toolHeader : Header := { priority := 6, station := 5, role := .tool, position := 255, hereTag := 0 }

def clean (n : Nat) : List Conversion := List.replicate n { reading := 700, broken := false }

theorem test_wf_payload : (Instr.rowVerdict toolHeader (List.replicate 33 0)).wf = false := by decide
theorem test_wf_payload_limit : (Instr.rowVerdict toolHeader (List.replicate 32 0)).wf = true := by decide
theorem test_wf_args : (Instr.status toolHeader (List.replicate 31 0)).wf = false := by decide
theorem test_wf_known_kind : (Instr.unknownKind 7 toolHeader []).wf = false := by decide
theorem test_wf_known_code : (Instr.unknownRequest 20 toolHeader []).wf = false := by decide
theorem test_wf_arb_bit : (Instr.arbLost 21).wf = false := by decide
theorem test_wf_clash_bit : (Instr.clash 360).wf = false := by decide
theorem test_wf_bits : (Instr.frameBadCheck (List.replicate 353 true)).wf = false := by
  decide +kernel
theorem test_wf_block : (Instr.configBlockRead { startAddr := 4, endAddr := 4, bytes := [1, 2] }).wf = false := by decide
theorem test_wf_lane : (Instr.lagEnd 8).wf = false := by decide
theorem test_wf_reading : (Instr.openRecovery 0 [{ reading := 2048, broken := false }]).wf = false := by decide
theorem test_wf_count : (Instr.openRecovery 0 (clean 3)).wf = false := by decide
theorem test_wf_channels : (Instr.sampleTick { thermo := [], pressure := [0], reference := [0] }).wf = false := by decide
theorem test_wf_pressure :
    (Instr.sampleTick { thermo := List.replicate 8 (clean 8), pressure := List.replicate 8 4096,
                        reference := [0] }).wf = false := by decide
theorem test_wf_reference :
    (Instr.sampleTick { thermo := List.replicate 8 (clean 8), pressure := List.replicate 8 0, reference := [] }).wf = false := by
  decide
theorem test_wf_tick :
    (Instr.sampleTick { thermo := List.replicate 8 (clean 8), pressure := List.replicate 8 4095,
                        reference := [0] }).wf = true := by decide

/-! ## The manual's worked cases -/

/-- The configuration of the manual's station 7 (dwell, dose and aim cases). -/
def cfg7 : Configuration :=
  { stage := 2, stages := 2, position := 21, lanes := 2, options := 0, evidence := 2, minIndex := 100, motion := 150, settle := 40,
    release := 120, closeTimeout := 300, openTimeout := 1000, idleTimeout := 1, dryPeriod := 500, nconf := 300, nmin := 100,
    lead := 3, tact := 440, pmin := 150, pref := 400, share1 := 2750, share2 := 3250, share3 := 0, share4 := 0, dtarget := 6000,
    dmin := 5400, dmax := 7200, pspan := 1000, poffset := 0, offsets := [-3, 1, 0, -2, 0, 0, 20, 0], averaging := 0,
    tlimit := 1000, refTol := 8, spRun := 720, spStby := 480, bias := 20, gain := 96, wlane := List.replicate 8 1600, feed := 1,
    cls := .b, budget := 12000, alarmMask := 0xFFFF }

/-- Dwell Limit Worked Cases. -/
theorem test_dwell_limit :
    [some 800, some 1200, some 400, some 250, some 65535, none].map (dwellLimitOf cfg7) = [245, 300, 100, 100, 300, 300] := by
  decide

/-- R137's cases. -/
theorem test_contact_weight : [150, 300, 450, 149].map (contactWeight cfg7) = [96, 192, 256, 0] := by decide

/-- R138's cases. -/
theorem test_increment : increment cfg7 700 256 = 260 ∧ increment cfg7 700 192 = 195 ∧ increment cfg7 440 256 = 0 := by decide

/-- The own doses of Dose at the Limits. -/
theorem test_own_dose : [39200, 44070, 49140, 41340, 1048575].map ownDose = [2450, 2754, 3071, 2584, 65535] := by decide

/-- An entry of stage 1 with a dose. -/
def stage1 (dose : Nat) : LaneEntry := { freshLane with contributions := [⟨1, dose, .pending, .none⟩] }

/-- Aim Worked Cases: none, then doses 2750, 0, 5000, 6100 and 7300 of stage 1. -/
theorem test_aim :
    [freshLane, stage1 2750, stage1 0, stage1 5000, stage1 6100, stage1 7300].map (aimOf cfg7 (freshRecord cfg7 0)) =
      [3250, 3250, 6000, 1000, 0, 0] := by decide

/-- Verdicts of Dose at the Limits: C = 5200, 5821 with and without a condition, 7201; and C = 2754 at stage 1 of 2. -/
theorem test_verdict :
    doseVerdict cfg7 5200 false = .under ∧ doseVerdict cfg7 5821 true = .doubt ∧ doseVerdict cfg7 5821 false = .sealed ∧
      doseVerdict cfg7 7201 false = .over ∧ doseVerdict { cfg7 with stage := 1 } 2754 false = .pending := by decide

/-- R32's case: a tag 40,000 above H. -/
theorem test_tag_difference : tagDiff 5000 (5000 + 40000) = -25536 := by decide

/-- R33's case. -/
theorem test_implied_head : impliedHead cfg7 { toolHeader with position := 9, hereTag := 5012 } = 5000 := by decide

/-- Temperature Worked Cases, by average and channel. -/
theorem test_temperature :
    temperatureOf cfg7 3 702 = 700 ∧ temperatureOf cfg7 1 (-3) = 0 ∧ temperatureOf cfg7 6 1590 = 1600 ∧
      temperatureOf cfg7 0 443 = 440 := by decide

/-- Pressure Worked Cases. -/
theorem test_pressure :
    pressureOf cfg7 [1843] = 450 ∧ pressureOf { cfg7 with averaging := 2 } [1840, 1846, 1843, 1845] = 450 ∧
      pressureOf { cfg7 with poffset := 40 } [4095] = 1000 ∧ pressureOf { cfg7 with pspan := 600, poffset := -20 } [0] = 0 ∧
      pressureOf { cfg7 with pspan := 600, poffset := 15, averaging := 1 } [2730, 2731] = 415 := by decide

/-- The duty cases. -/
theorem test_duty :
    dutyOf cfg7 720 700 = 50 ∧ dutyOf cfg7 720 725 = 12 ∧ dutyOf cfg7 720 760 = 0 ∧ dutyOf cfg7 720 400 = 64 ∧
      dutyOf cfg7 480 700 = 0 := by decide

/-- The draw table of the Worked Budget Case, after ageing. -/
def draws7 : List Draw := [⟨3, .a, 5000, 1⟩, ⟨9, .b, 3000, 1⟩, ⟨5, .a, 2600, 1⟩, ⟨11, .b, 2000, 2⟩]

/-- The Worked Budget Case: own demand of duties 48, f, f without station 11, f as class A, and the applied duty. -/
theorem test_budget :
    ownDemand { cfg7 with lanes := 4 } (List.replicate 8 48) = 4800 ∧ scaleFactor cfg7 4800 draws7 = 114 ∧
      scaleFactor cfg7 4800 ((ageDraws draws7)) = 144 ∧ scaleFactor { cfg7 with cls := .a } 4800 draws7 = 247 ∧
      (startHeater 114 ⟨48, 0, false, false⟩).applied = 21 := by decide

/-- Reference checks at factory value 2048 and tolerance 8: readings 2050, 2068 and 2081 (R87). -/
theorem test_check_results :
    [2, 20, 33].map (checkResult cfg7.refTol) = [.pass, .drift, .fault] := by decide

/-- R4: the check of the manual's polynomial takes a frame's tail in and refuses it with one bit changed. -/
theorem test_wire :
    receiveBits (tailBits ⟨21, toolHeader, [7, 1]⟩) = .whole ⟨21, toolHeader, [7, 1]⟩ ∧
      receiveBits (false :: (tailBits ⟨21, toolHeader, [7, 1]⟩).drop 1) = .bad .checkDisagrees := by
  decide +kernel

/-! ## States for the witnesses -/

/-- The station after its start, platen OPEN, in the mode given; no H is held. -/
def station (m : Mode) : Part :=
  { Part.reset with
    control := { ModeController.reset with mode := m },
    loader := { Loader.reset with phase := .complete, straps := 7, clock := .crystal, config := some cfg7 },
    sequencer := { Sequencer.reset with platen := .opened },
    pins := { Pins.reset with straps := 7, openSensor := true } }

/-- A head row of which lane 0 is to be pressed and lane 1 is held off. -/
def headRow : RowRecord :=
  { freshRecord cfg7 5000 with
    lanes := [{ stage1 2750 with card := some .placed }, { stage1 2750 with card := some .missing }] }

/-- The station holding H = 5000. -/
def aligned (m : Mode) : Part :=
  { station m with
    tracker :=
      { Tracker.reset with
        h := some 5000, records := headRow :: (freshQueue cfg7 5000).drop 1, lastEdge := some 1000, msCount := 1000 } }

/-- The aligned station with the platen elsewhere and the timer of that state running. -/
def moved (q : Platen) (m : Mode) : Part :=
  { aligned m with
    sequencer :=
      { Sequencer.reset with
        platen := q, dwellLimit := 300, settleTimer := if q = .settle then some 40 else none,
        closeTimer := if q = .closing then some 300 else none, openTimer := if q = .opening then some 1000 else none },
    pins := { Pins.reset with straps := 7, openSensor := decide (q = .settle) } }

/-- The station in DRY, a dry cycle in progress. -/
def drying (q : Platen) : Part :=
  { moved q .dry with
    sequencer := { (moved q .dry).sequencer with dryTimer := some 500, dry := some { tag := 5000, logged := false } } }

/-- A part in its start sequence. -/
def starting (phase : StartPhase) : Part :=
  { Part.reset with loader := { Loader.reset with phase := phase, straps := 7 }, pins := { Pins.reset with straps := 7 } }

/-- A queued frame. -/
def queued (b : FrameBody) : TxFrame :=
  { body := b, position := 255, hereTag := 0, age := 0, sending := false, lapsed := false, restartReply := false }

def reply (n : Nat) : TxFrame := queued (.serviceReply 5 (BitVec.ofNat 8 n) .done [])

/-- The part with another transmit queue. -/
def queueing (q : List TxFrame) (p : Part) : Part := { p with port := { p.port with queue := q } }

/-- The part with the stop input active. -/
def stopActive (p : Part) : Part := { p with pins := { p.pins with stopInput := true } }

/-- The part with lanes in contact, or ended. -/
def touching (k : Contact) (p : Part) : Part :=
  { p with dose := { p.dose with lanes := List.replicate 8 { LaneDose.reset with contact := k } } }

/-- The part with a flag of its monitor, or of its mode controller, changed. -/
def halted (p : Part) : Part := { p with control := { p.control with lineStop := true } }
def frozenCounters (p : Part) : Part := { p with monitor := { p.monitor with frozen := some .request } }
def restarting (p : Part) : Part := { p with responder := { p.responder with pendingRestart := true } }
def resetHeld (p : Part) : Part := { p with pins := { p.pins with resetInput := true } }
def faultyConverter (p : Part) : Part := { p with sampling := { p.sampling with converterFault := true } }
def checking (ticks sum : Nat) (p : Part) : Part :=
  { p with sampling := { p.sampling with check := some { ticks := ticks, sum := sum, count := 10 } } }
def sensorOff (p : Part) : Part := { p with pins := { p.pins with openSensor := false } }
def headFixed (p : Part) : Part := freezeHead p
def quietLine (p : Part) : Part := { p with port := { p.port with quiet := true } }
def pressing (p : Part) : Part := { p with dose := { p.dose with closeCommanded := true } }
def scaled (f : Nat) (p : Part) : Part := { p with regulator := { p.regulator with scale := f } }
def cycleLogged (p : Part) : Part := { p with sequencer := { p.sequencer with dry := some { tag := 5000, logged := true } } }
def cycleDue (p : Part) : Part := { p with sequencer := { p.sequencer with dryDue := true } }
def realigning (p : Part) : Part := { p with tracker := { p.tracker with pendingRealign := some { d := 1, hFirst := 5000 } } }
def waiting (p : Part) : Part := { p with loader := { p.loader with phase := .waiting } }
def heating (x : Heater) (p : Part) : Part := { p with regulator := { p.regulator with heaters := List.replicate 8 x } }
def takingIn (p : Part) : Part := { p with port := { p.port with receiving := true } }
def deaf (p : Part) : Part := { p with port := { p.port with waitQuiet := true } }
def unheard (n : Nat) (p : Part) : Part := { p with tracker := { p.tracker with quietCount := n } }

/-- The part with every channel OPEN. -/
def unfit (p : Part) : Part :=
  { p with sampling := { p.sampling with channels := List.replicate 8 { Channel.reset with isOpen := true } } }

/-- The part as a command finds it, and as a request's payload does. -/
def asked (p : Part) : Part := heard toolHeader (ready p)

theorem found (p : Part) : Finds ⟨[], p⟩ (ready p) := rfl

/-- What a frame must meet to be heard. -/
def heardBy (h : Header) (p : Part) : Bool :=
  listening (ready p) && h.station != 0 && decide (ownStation (ready p) ≠ some h.station)

theorem hears_of (h : Header) (p : Part) (b : heardBy h p = true) : Hears h ⟨[], p⟩ (heard h (ready p)) := by
  simp only [heardBy, Bool.and_eq_true, bne_iff_ne, decide_eq_true_eq] at b
  exact ⟨⟨b.1.1, b.1.2, b.2⟩, rfl⟩

theorem asks_of (p : Part) (b : heardBy toolHeader p = true) (o : (ownStation (asked p)).isSome = true) :
    Asks toolHeader ⟨[], p⟩ (asked p) := ⟨hears_of toolHeader p b, o⟩

/-- Requests can be asked of every part listed. -/
def allAsk (ps : List Part) : Bool := ps.all (fun p => heardBy toolHeader p && (ownStation (asked p)).isSome)

theorem asks_all (ps : List Part) (h : allAsk ps = true) : ∀ p ∈ ps, Asks toolHeader ⟨[], p⟩ (asked p) := by
  intro p hp
  have := List.all_eq_true.1 h p hp
  simp only [Bool.and_eq_true] at this
  exact asks_of p this.1 this.2

theorem finds_all (ps : List Part) : ∀ p ∈ ps, Finds ⟨[], p⟩ (ready p) := fun p _ => found p

/-- The part that a command leaves. -/
def after (c : Instr) (p : Part) : Part :=
  match exec c ⟨[], p⟩ with
  | .next t => t.part
  | _ => p

theorem takes_after (c : Instr) (p : Part) : Takes c ⟨[], p⟩ (after c p) := by
  obtain ⟨t, ht⟩ := exec_takes c ⟨[], p⟩
  unfold Takes after; rw [ht]

theorem step_answers (c : Instr) (p : Part) : ∃ t, step ⟨[c], p⟩ = .next t :=
  let ⟨_, ht⟩ := exec_takes c ⟨[], p⟩
  ⟨_, ht⟩

/-- A SEAL REPORT of a tag. -/
def report (t : Tag) : SealReport :=
  { tag := t, stage := 2, final := true, noContact := false, forced := false, drift := false, lanes := [] }

/-- A frame whose arbitration field ends in a recessive bit: a SEAL REPORT of station 7. -/
def contended : TxFrame := { queued (.sealReport (report 7)) with sending := true }

/-- The part whose counter 0 counts the frames received. -/
def watchFrames (p : Part) : Part :=
  { p with
    monitor := { p.monitor with controls := [{ Control.reset with select := eventCode .frameReceived, enable := true }] } }

/-! ## Single effects -/

/-- R75: by the averaging setting, 1, 2, 4 or 8 of the readings carried are made. -/
theorem test_readings_made : [0, 1, 2, 3].map (fun a => (made { cfg7 with averaging := a } (clean 8)).length) = [1, 2, 4, 8] := by
  decide

/-- The Worked Budget Case's station at a budget period end: four lanes at 701 qd, counter 0 on BUDGET_SCALED. -/
def atBudgetEnd (f : Nat) (draws : List Draw) : Part :=
  let p := station .seek
  { p with
    loader := { p.loader with config := some { cfg7 with lanes := 4 } },
    sampling := { p.sampling with channels := List.replicate 8 ⟨701, false, 0, false⟩ },
    regulator := { p.regulator with ticks := 32, periods := 3, scale := f, draws := draws },
    monitor := { p.monitor with controls := [{ Control.reset with select := 25, enable := true }] } }

/-- The Worked Budget Case, R109, R168: at the tick whose end brings f to 114, SUPPLY_SHORT is raised and the tick is counted. -/
theorem test_short_supply_seen :
    let p := ready (atBudgetEnd 256 [⟨3, .a, 5000, 0⟩, ⟨9, .b, 3000, 0⟩, ⟨5, .a, 2600, 0⟩, ⟨11, .b, 2000, 1⟩])
    p.regulator.scale = 114 ∧ alarmSet .supplyShort p = true ∧ p.monitor.counters.head?.map Counter.value = some 1 := by
  decide +kernel

/-- R109, R168: at the tick whose end brings f back to 256 nothing is short. -/
theorem test_full_supply_seen :
    let p := ready (atBudgetEnd 114 [])
    p.regulator.scale = 256 ∧ alarmSet .supplyShort p = false ∧ p.monitor.counters.head?.map Counter.value = some 0 := by
  decide +kernel

/-- R86, R100, R110: the heaters that a converter fault at a tick puts out are not seen on at the next. -/
theorem test_heaters_out_at_fault :
    (after .refCheckEnd (checking 10 30000 (heating ⟨64, 64, true, true⟩ (station .seek)))).regulator.heaters.all
      (fun x => !x.on && !x.seen) = true := by decide +kernel

/-- R49: a line stop that takes RUN to HOLD starts the quiet count again; an operator hold does not by itself. -/
theorem test_quiet_count_restarts :
    (after .stopInputActivation (unheard 7 (aligned .run))).tracker.quietCount = 0 ∧
      (after (.hold toolHeader []) (unheard 7 (aligned .run))).tracker.quietCount = 7 := by decide +kernel

/-- R1, R17: the start mark of another node's frame ends the quiet, so that a frame joining waits. -/
theorem test_mark_ends_quiet :
    let p := after (.startMarkRefused startMark) (quietLine (station .seek))
    p.port.quiet = false ∧ (after .stopInputActivation p).port.queue.any TxFrame.sending = false := by decide +kernel

/-- R18, R23, R26: an accepted mark begins a reception; a reset discards it, uncounted when its frame arrives, until the line goes
quiet. -/
theorem test_reset_discards_the_reception :
    let p := after .resetRelease (after .resetInput (after (.startMarkRefused startMark) (station .seek)))
    let mark := fun q => (after (.unknownKind 9 toolHeader []) (watchFrames q)).monitor.counters.head?.map Counter.value
    mark p = some 0 ∧ mark (after .quietDeclaration p) = some 1 ∧ (after .powerOn (takingIn (station .seek))).port.waitQuiet = true ∧
      (after (.arbLost 20) (queueing [contended] (station .seek))).port.receiving = true := by decide +kernel

/-- R22, R192: the restart is performed where the reply leaves, before the command that follows. -/
theorem test_restart_before_next_command :
    (ready (restarting (station .seek))).loader.phase = .crystal := by decide +kernel

/-! ## Witnesses: invariants and rules over every command -/

theorem witness_StepKeepsTravelQueue :
    TravelQueueOk (aligned .run) ∧ TravelQueueOk (station .seek) ∧ ∃ t, step ⟨[.indexEdge 2000], aligned .run⟩ = .next t :=
  ⟨show (aligned .run).tracker.records.map RowRecord.tag = windowTags 5000 by decide +kernel, rfl, step_answers _ _⟩

theorem witness_StepKeepsTransmitQueue :
    TransmitQueueOk [queued (.lineStop .input), { queued (.drawNotice 1 .b 9) with sending := true }, reply 1] ∧
      ∃ t, step ⟨[.frameSent], queueing [reply 1] (station .seek)⟩ = .next t :=
  ⟨by unfold TransmitQueueOk; decide +kernel, step_answers _ _⟩

theorem witness_StepKeepsRangesAndLimits :
    (ReadingsOk (aligned .run).sampling ∧ DrawTableOk draws7 ∧ CountersOk (aligned .run).monitor ∧ CountsOk (aligned .run) ∧
      LogOk (aligned .run).log) ∧ ∃ t, step ⟨[.closeTimeout], moved .closing .run⟩ = .next t :=
  ⟨by unfold ReadingsOk DrawTableOk CountersOk CountsOk LogOk; decide +kernel, step_answers _ _⟩

theorem witness_StepKeepsContactsClosed :
    ContactsOk (aligned .run) ∧ ContactsOk (touching .inContact (moved .closing .run)) ∧
      ∃ t, step ⟨[.closeTimeout], moved .closing .run⟩ = .next t :=
  ⟨by unfold ContactsOk; decide +kernel, by unfold ContactsOk; decide +kernel, step_answers _ _⟩

theorem witness_PermitFollowsItsConditions :
    Takes .stopInputRelease ⟨[], aligned .run⟩ (after .stopInputRelease (aligned .run)) ∧
      (after .stopInputRelease (aligned .run)).pins.permit = true ∧
      (after .openSensorInactive (aligned .run)).pins.permit = false :=
  ⟨takes_after _ _, by decide +kernel⟩

theorem witness_AlarmFollowsEnabledFlags :
    Takes .closeTimeout ⟨[], moved .closing .run⟩ (after .closeTimeout (moved .closing .run)) ∧
      (after .closeTimeout (moved .closing .run)).pins.alarm = true ∧
      (after .stopInputRelease (aligned .run)).pins.alarm = false :=
  ⟨takes_after _ _, by decide +kernel⟩

theorem witness_ValvesLiftsAndHeatersFollow :
    Takes .settleEnd ⟨[], moved .settle .run⟩ (after .settleEnd (moved .settle .run)) ∧
      (after .settleEnd (moved .settle .run)).pins.lifts = [false, true, true, true, true, true, true, true] :=
  ⟨takes_after _ _, by decide +kernel⟩

theorem witness_ConverterFaultHoldsFault :
    ((faultyConverter (station .fault)).loader.phase = .complete ∧ (faultyConverter (station .fault)).control.mode = .fault ∧
        (faultyConverter (station .fault)).sampling.converterFault = true) ∧
      Takes (.clearFault toolHeader []) ⟨[], faultyConverter (station .fault)⟩
        (after (.clearFault toolHeader []) (faultyConverter (station .fault))) :=
  ⟨by decide +kernel, takes_after _ _⟩

theorem witness_NoCloseInHoldOrFault :
    (DryOnlyInDry (drying .settle) ∧ DryOnlyInDry (aligned .run) ∧ DryOnlyInDry (starting .checking) ∧
        ∃ t, step ⟨[.settleEnd], drying .settle⟩ = .next t) ∧
      ((moved .settle .run).loader.phase = .complete ∧ (drying .settle).sequencer.dry ≠ none ∧
        (drying .settle).sequencer.platen = .settle ∧ (drying .settle).control.mode = .dry) ∧
      (closing (moved .settle .run).sequencer.platen = false ∧
        closing (after .settleEnd (moved .settle .run)).sequencer.platen = true) ∧
      Takes .settleEnd ⟨[], moved .settle .run⟩ (after .settleEnd (moved .settle .run)) :=
  ⟨⟨by unfold DryOnlyInDry; decide +kernel, by unfold DryOnlyInDry; decide +kernel, by unfold DryOnlyInDry; decide +kernel,
    step_answers _ _⟩, by decide +kernel, by decide +kernel, takes_after _ _⟩

/-- A RESTART that waits for its reply. -/
def restartQueued : Part := restarting (queueing [{ reply 20 with restartReply := true }] (station .seek))

theorem witness_RestartWaitsOnlyForItsReply :
    Takes .stopInputRelease ⟨[], restartQueued⟩ (after .stopInputRelease restartQueued) ∧
      (after .stopInputRelease restartQueued).responder.pendingRestart = true ∧
      (ready restartQueued).responder.pendingRestart = true :=
  ⟨takes_after _ _, by decide +kernel⟩

theorem witness_EventEndEntersOpenOnce :
    (let p := { moved .opening .run with pins := (aligned .run).pins };
      p.sequencer.platen = .opening ∧ p.pins.openSensor = true ∧ p.loader.phase ≠ .off) ∧
      (aligned .run).sequencer.platen ≠ .opening := by decide +kernel

/-- R21, R192: where the RESTART reply's 500 ms take it from the queue, the restart is performed; with another reply ahead, not yet. -/
theorem test_restart_at_reply_expiry :
    (after .serviceReplyExpiry restartQueued).loader.phase = .crystal ∧
      (after .serviceReplyExpiry (restarting (queueing [reply 1, { reply 20 with restartReply := true }] (station .seek)))).loader.phase =
        .complete := by decide +kernel

/-! ## Witnesses: start-up and pins -/

theorem witness_ResetsLeaveTheirValues :
    (aligned .run).pins.resetInput = false ∧ (resetHeld (aligned .run)).pins.resetInput = true ∧
      (∀ p ∈ [Part.reset, station .seek], Finds ⟨[], p⟩ (ready p)) ∧ (ready Part.reset).loader.phase = .off ∧
      (ready (station .seek)).loader.phase ≠ .off :=
  ⟨rfl, rfl, finds_all _, by decide +kernel⟩

theorem witness_StartSequenceSteps :
    (∀ p ∈ [starting .crystal, starting .waiting, starting .reading], Finds ⟨[], p⟩ (ready p)) ∧
      (ready (starting .crystal)).loader.phase = .crystal ∧ (ready (starting .waiting)).loader.phase = .waiting ∧
      (ready (starting .reading)).loader.phase ≠ .crystal ∧ (ready (starting .reading)).loader.phase ≠ .waiting :=
  ⟨finds_all _, by decide +kernel⟩

/-- The bytes of the configuration, read as a start reads them. -/
def block7 : List Byte := (List.range 95).map (fun i => (blockBytes cfg7).getD i 0)

theorem witness_ConfigurationPutInForceOrBad :
    (∀ p ∈ [starting .reading, station .seek], Finds ⟨[], p⟩ (ready p)) ∧
      (ready (station .seek)).loader.phase ≠ .reading ∧ (ready (starting .reading)).loader.phase = .reading ∧
      ((4 : BitVec 16).toNat + 94 = (98 : BitVec 16).toNat ∧ (ready (starting .reading)).loader.straps = 7 ∧
        checksPass block7 = true ∧ structuralError (clampBlock (readBlock block7)) = false) ∧
      checksPass (block7.map (fun _ => 0)) = false ∧ (4 : BitVec 16).toNat + 94 ≠ (97 : BitVec 16).toNat :=
  ⟨finds_all _, by decide +kernel⟩

theorem witness_PinChangesAreKept :
    (∀ p ∈ [stopActive (aligned .run), starting .crystal, aligned .run], Finds ⟨[], p⟩ (ready p)) ∧
      (ready (stopActive (aligned .run))).pins.stopInput = true ∧
      ((ready (starting .crystal)).pins.stopInput = false ∧ (ready (starting .crystal)).control.mode = .start) ∧
      (ready (aligned .run)).pins.stopInput = false ∧ (ready (aligned .run)).control.mode ≠ .start :=
  ⟨finds_all _, by decide +kernel⟩

/-! ## Witnesses: the row line -/

theorem witness_FramesJoinTheQueue :
    ((∀ x ∈ [queued (.lineStop .input)], priority x.body ≤ priority (FrameBody.drawNotice 1 .b 5)) ∧
        (∀ x ∈ [reply 1], priority (FrameBody.drawNotice 1 .b 5) < priority x.body)) ∧
      (∀ x ∈ List.replicate 16 (reply 1), x.sending = false → priority x.body ≤ priority (reply 2).body) ∧
      (List.replicate 16 (reply 1) = List.replicate 15 (reply 1) ++ reply 1 :: [] ∧
        priority (FrameBody.lineStop .input) < priority (reply 1).body) ∧
      (isDraw (FrameBody.drawNotice 1 .b 5) = true ∧ isDraw (queued (.drawNotice 1 .b 4)).body = true) ∧
      reportTag (queued (.sealReport (report 7))).body = some (report 7).tag := by decide +kernel

theorem witness_QuietBeginsTheHead :
    (∀ p ∈ [Part.reset, queueing [reply 1] (station .seek), station .seek,
        queueing [{ reply 1 with sending := true }] (station .seek)], Finds ⟨[], p⟩ (ready p)) ∧
      (ready Part.reset).loader.phase = .off ∧
      ((ready (queueing [reply 1] (station .seek))).port.queue = reply 1 :: [] ∧
        (ownStation (ready (queueing [reply 1] (station .seek)))).isSome = true) ∧
      ((ready (station .seek)).port.queue = [] ∧ (ready (station .seek)).loader.phase ≠ .off) ∧
      (ready (queueing [{ reply 1 with sending := true }] (station .seek))).port.queue.any TxFrame.sending = true ∧
      (listening (ready (station .seek)) = true ∧ markAccepted (markTolerance cfg7) startMark = true) ∧
      (station .seek).port.quiet = false ∧
      ((quietLine (station .seek)).port.quiet = true ∧ (quietLine (station .seek)).port.queue = [] ∧
        (reply 1).sending = false ∧ (ownStation (quietLine (station .seek))).isSome = true) :=
  ⟨finds_all _, by decide +kernel⟩

/-- A RESTART reply in transmission. -/
def leaving : TxFrame := { reply 20 with restartReply := true, sending := true }

/-- A reply in transmission, and the RESTART reply that waits behind it. -/
def ahead : List TxFrame := [{ reply 1 with sending := true }, { reply 20 with restartReply := true }]

theorem witness_FrameSentLeavesAndRestarts :
    (∀ p ∈ [queueing [leaving] (station .seek), restarting (queueing ahead (station .seek)),
        restarting (queueing [leaving] (station .seek))], Finds ⟨[], p⟩ (ready p)) ∧
      ((ready (queueing [leaving] (station .seek))).port.queue = [] ++ leaving :: [] ∧ leaving.sending = true ∧
        NoRestart (ready (queueing [leaving] (station .seek)))) ∧
      ((ready (restarting (queueing ahead (station .seek)))).port.queue =
          [] ++ { reply 1 with sending := true } :: [{ reply 20 with restartReply := true }] ∧
        (ready (restarting (queueing ahead (station .seek)))).responder.pendingRestart = true) ∧
      ((ready (restarting (queueing [leaving] (station .seek)))).port.queue = [] ++ leaving :: [] ∧
        (ready (restarting (queueing [leaving] (station .seek)))).responder.pendingRestart = true ∧
        (ready (restarting (queueing [leaving] (station .seek)))).pins.resetInput = false) :=
  ⟨finds_all _, by unfold NoRestart; decide +kernel, by decide +kernel, by decide +kernel⟩

theorem witness_MismatchAndExpiry :
    (∀ p ∈ [queueing [contended] (station .seek), queueing [reply 1] (station .seek),
        queueing [{ reply 1 with sending := true }] (station .seek)], Finds ⟨[], p⟩ (ready p)) ∧
      ownStation (ready (queueing [contended] (station .seek))) = some 7 ∧
      (wireBits (builtFrame 7 contended)).getD 20 false = true ∧
      ((wireBits (builtFrame 7 contended)).getD 0 false = false ∧ 21 < (wireBits (builtFrame 7 contended)).length) ∧
      (isReply (reply 1).body = true ∧ (reply 1).lapsed = false ∧ (reply 1).sending = false) :=
  ⟨finds_all _, by decide +kernel⟩

/-- The tail of a frame of station 0. -/
def fromNobody : RxFrame := ⟨21, { toolHeader with station := 0 }, []⟩

theorem witness_BadFramesAreOnlyCounted :
    (∀ p ∈ [station .seek, Part.reset, deaf (station .seek)], Finds ⟨[], p⟩ (ready p)) ∧
      (listening (ready (deaf (station .seek))) = false ∧ (ready (deaf (station .seek))).loader.phase ≠ .off) ∧
      listening (ready (station .seek)) = true ∧
      receiveBits (List.replicate 11 true) = .bad .brokenStuffing ∧ receiveBits [] = .bad .earlyQuiet ∧
      receiveBits (tailBits fromNobody) = .whole fromNobody ∧ markAccepted (markTolerance cfg7) 0 = false ∧
      (ownStation (ready (station .seek))).isSome = true ∧ listening (ready Part.reset) = false :=
  ⟨finds_all _, by decide +kernel⟩

theorem witness_FramesPassedOver :
    Hears toolHeader ⟨[], aligned .run⟩ (asked (aligned .run)) ∧
      (ownStation (asked (aligned .run)) = some 7 ∧ (6 : Byte).toNat ≠ 7) ∧ ([1] : List Byte).length < 2 ∧
      (3 : BitVec 5).toNat ∉ [2, 4, 6, 7, 10, 20, 21] :=
  ⟨hears_of _ _ (by decide +kernel), by decide +kernel⟩

/-- A header that implies H = 5000 with the manual's own numbers (R33). -/
def loadHeader : Header := { priority := 2, station := 3, role := .load, position := 9, hereTag := 5012 }

/-- The part with an alignment candidate. -/
def candidate (t : Tag) (n : Nat) (p : Part) : Part :=
  { p with tracker := { p.tracker with candidate := some t, candidateCount := n } }

theorem witness_EvidenceAligns :
    (station .seek).tracker.h = none ∧ toolHeader.position = 255 ∧ loadHeader.position ≠ 255 ∧
      (station .fault).control.mode ≠ .seek ∧ (station .seek).tracker.candidate ≠ some 5000 ∧ 1 < cfg7.evidence ∧
      (candidate 5000 1 (station .seek)).tracker.candidate = some 5000 ∧ cfg7.evidence ≤ 1 + 1 := by decide +kernel

/-- The part with a skew candidate counted once. -/
def skewed (d : Int) (p : Part) : Part := { p with tracker := { p.tracker with skew := some ⟨d, 1, 5000⟩ } }

theorem witness_EvidenceRealigns :
    (aligned .run).tracker.h = some 5000 ∧ impliedHead cfg7 loadHeader = 5000 ∧
      impliedHead cfg7 { loadHeader with hereTag := 5013 } = 5001 ∧ tagDiff 5000 5001 = 1 ∧ 1 < cfg7.evidence ∧
      (skewed 1 (aligned .run)).tracker.skew = some ⟨1, 1, 5000⟩ ∧ cfg7.evidence ≤ 1 + 1 ∧
      (moved .closing .run).sequencer.platen ≠ .opened ∧ (moved .closing .run).sequencer.platen ≠ .settle ∧
      (aligned .run).sequencer.platen = .opened := by decide +kernel

/-- A ROW VERDICT's payload for a tag, two lanes of code 1. -/
def verdictFor (t : Tag) : List Byte := bytes16 t.toNat ++ [2, 0x11]

/-- The part as the payload of a frame with the header of a peer finds it. -/
def fed (h : Header) (p : Part) : Part := heard h (ready p)

theorem witness_RowVerdictIsFiled :
    (Hears loadHeader ⟨[], aligned .run⟩ (fed loadHeader (aligned .run)) ∧
        Hears toolHeader ⟨[], aligned .run⟩ (fed toolHeader (aligned .run)) ∧
        Hears loadHeader ⟨[], headFixed (aligned .run)⟩ (fed loadHeader (headFixed (aligned .run)))) ∧
      readRowVerdict [] = none ∧ readRowVerdict (verdictFor 5000) = some ⟨5000, [1, 1]⟩ ∧
      (fed loadHeader (aligned .run)).tracker.h = some 5000 ∧ tagDiff 5000 4999 < 0 ∧
      headFrozen (fed loadHeader (headFixed (aligned .run))) = true ∧ 47 < tagDiff 5000 5048 ∧ tagDiff 5000 5047 = 47 ∧
      headFrozen (fed loadHeader (aligned .run)) = false ∧
      (fed loadHeader (aligned .run)).tracker.records.map RowRecord.tag = windowTags 5000 :=
  ⟨⟨hears_of _ _ (by decide +kernel), hears_of _ _ (by decide +kernel), hears_of _ _ (by decide +kernel)⟩, by
    decide +kernel⟩

/-- A peer's header of role SEAL, without evidence. -/
def sealHeader : Header := { toolHeader with role := .sealer }

theorem witness_UpstreamStagesAreFiled :
    (Hears toolHeader ⟨[], aligned .run⟩ (fed toolHeader (aligned .run)) ∧
        Hears sealHeader ⟨[], aligned .run⟩ (fed sealHeader (aligned .run)) ∧
        Hears sealHeader ⟨[], starting .crystal⟩ (fed sealHeader (starting .crystal)) ∧
        Hears sealHeader ⟨[], station .seek⟩ (fed sealHeader (station .seek)) ∧
        Hears sealHeader ⟨[], headFixed (aligned .run)⟩ (fed sealHeader (headFixed (aligned .run)))) ∧
      (readSealReport [] = none ∧ readVoidNotice [] = none) ∧ (fed sealHeader (station .seek)).tracker.h = none ∧
      (tagDiff 5000 4999 < 0 ∧ headFrozen (fed sealHeader (headFixed (aligned .run))) = true ∧ 47 < tagDiff 5000 5048 ∧
        tagDiff 5000 5047 = 47) ∧
      ((fed sealHeader (aligned .run)).tracker.records = [] ++ headRow :: (freshQueue cfg7 5000).drop 1 ∧
        headRow.tag = 5000 ∧ ((freshQueue cfg7 5000).drop 1).all (fun y => y.tag != 5000) = true) ∧
      ((stage1 2750).contributions = [] ++ ⟨1, 2750, .pending, .none⟩ :: [] ∧ freshLane.contributions = [] ++ []) ∧
      readSealReport (bytes16 5000 ++ [0, 0, 0, 0, 10, 190, 0]) = some ⟨5000, 1, [⟨2750, some (.pending, .none)⟩]⟩ ∧
      (fed sealHeader (starting .crystal)).loader.config = none ∧
      (readSealReport (bytes16 5000 ++ [0x40, 0, 0, 0, 0, 0, 0])).map ReceivedReport.stage = some cfg7.stage ∧
      (readSealReport (bytes16 5000 ++ [0x80, 0, 0, 0, 0, 0, 0])).map ReceivedReport.stage = some (cfg7.stage + 1) ∧
      readVoidNotice (bytes16 5000 ++ bytes16 5003 ++ [1, 1]) = some ⟨5000, 5003, 1⟩ ∧ tagDiff 5003 5000 < 0 ∧
      (47 < tagDiff 5000 5048 ∧ tagDiff 4990 4999 = 9) ∧ (tagDiff 5000 5000 = 0 ∧ tagDiff 5000 5003 = 3) ∧
      (fed sealHeader (aligned .run)).tracker.h = some 5000 ∧ headFrozen (fed sealHeader (aligned .run)) = false :=
  ⟨⟨hears_of _ _ (by decide +kernel), hears_of _ _ (by decide +kernel), hears_of _ _ (by decide +kernel),
    hears_of _ _ (by decide +kernel), hears_of _ _ (by decide +kernel)⟩, by decide +kernel⟩

/-- A full draw table whose entries have the age given. -/
def fullTable (age : Nat) : List Draw := (List.range 16).map (fun i => ⟨BitVec.ofNat 5 (i + 8), .b, 100, age⟩)

theorem witness_DrawNoticeEntersTheTable :
    (Hears toolHeader ⟨[], aligned .run⟩ (asked (aligned .run)) ∧
        Hears toolHeader ⟨[], starting .crystal⟩ (asked (starting .crystal))) ∧
      readDrawNotice [0x60, 0, 200] = some ⟨1, .b, 200⟩ ∧ readDrawNotice [0xA0, 0, 200] = some ⟨2, .b, 200⟩ ∧
      (asked (starting .crystal)).loader.config = none ∧ (asked (aligned .run)).loader.config = some cfg7 ∧
      (draws7.any (fun e => e.station == 5) = true ∧ draws7.all (fun e => e.station != 6) = true ∧ draws7.length < 16) ∧
      ((fullTable 0).length = 16 ∧ (fullTable 0).all (fun e => e.station != 5 && e.age == 0) = true) ∧
      fullTable 1 = [] ++ ⟨8, .b, 100, 1⟩ :: (fullTable 1).drop 1 :=
  ⟨⟨hears_of _ _ (by decide +kernel), hears_of _ _ (by decide +kernel)⟩, by decide +kernel⟩

theorem witness_LineStateStopsAndRuns :
    (∀ p ∈ [aligned .run, stopActive (halted (aligned .hold)), halted (aligned .hold), drying .settle],
        Asks toolHeader ⟨[], p⟩ (asked p)) ∧
      readLineState [3, 1] = none ∧ (1 ≤ (1 : Byte).toNat ∧ (3 : Byte).toNat ≤ 3) ∧
      ((asked (stopActive (halted (aligned .hold)))).control.mode ≠ .dry ∧
        (asked (stopActive (halted (aligned .hold)))).pins.stopInput = true) ∧
      ((asked (halted (aligned .hold))).control.mode ≠ .dry ∧ (asked (halted (aligned .hold))).pins.stopInput = false) ∧
      (asked (drying .settle)).control.mode = .dry :=
  ⟨asks_all _ (by decide +kernel), by decide +kernel⟩

/-! ## Witnesses: service requests -/

theorem witness_RequestsAnsweredBadOrRefused :
    (∀ p ∈ [starting .crystal, aligned .run, sensorOff (station .fault), faultyConverter (station .fault), moved .settle .run,
        moved .settle .hold, checking 0 0 (station .hold), station .hold, halted (moved .settle .hold)],
        Asks toolHeader ⟨[], p⟩ (asked p)) ∧
      (20 < (21 : Byte).toNat ∧ (0 : Byte) = 0) ∧
      (requestRows.all (fun x => decide (([0, 0, 0, 0, 0, 0, 0] : List Byte).length ≠ x.size)) = true ∧
        requestRows.length = 20) ∧
      (asked (starting .crystal)).control.mode = .start ∧ (asked (aligned .run)).control.mode ≠ .fault ∧
      (asked (sensorOff (station .fault))).pins.openSensor = false ∧
      (asked (faultyConverter (station .fault))).sampling.converterFault = true ∧
      (asked (moved .settle .run)).sequencer.platen ≠ .opened ∧
      (asked (checking 0 0 (station .hold))).sampling.check ≠ none ∧
      (asked (station .hold)).control.lineStop = false ∧ (asked (halted (moved .settle .hold))).sequencer.platen ≠ .opened ∧
      (asked (aligned .run)).control.mode ≠ .dry :=
  ⟨asks_all _ (by decide +kernel), by decide +kernel⟩

/-- The part whose start ended in CONFIG_BAD with a block read. -/
def readBad : Part :=
  let p := starting .configBad
  { p with loader := { p.loader with block := some block7 } }

theorem witness_StatusAndConfigurationAreRead :
    (∀ p ∈ [station .seek, starting .crystal, readBad], Asks toolHeader ⟨[], p⟩ (asked p)) ∧
      (3 < (4 : Byte).toNat ∧ (3 : Byte).toNat ≤ 3) ∧ (asked (station .seek)).loader.config = some cfg7 ∧
      ((asked (starting .crystal)).loader.config = none ∧ (asked (starting .crystal)).loader.block = none) ∧
      ((asked readBad).loader.config = none ∧ (asked readBad).loader.block = some block7) :=
  ⟨asks_all _ (by decide +kernel), by decide +kernel⟩

/-- An entry of the dwell log. -/
def entry : LogEntry := logEntryOf 3125 false false false (station .run)

/-- The part with one entry in its dwell log. -/
def logged (p : Part) : Part := { p with log := { p.log with entries := [entry] } }

theorem witness_CountersLogAndRowsAreRead :
    (∀ p ∈ [aligned .run, station .seek, logged (aligned .run)], Asks toolHeader ⟨[], p⟩ (asked p)) ∧
      ((asked (aligned .run)).monitor.counters.length = 7 ∧ (asked (aligned .run)).monitor.snapshot = none) ∧
      (asked (aligned .run)).control.mode ≠ .start ∧ (asked (aligned .run)).log.entries = [] ∧
      (asked (logged (aligned .run))).log.entries = entry :: [] ∧ (asked (station .seek)).tracker.h = none ∧
      cfg7.lanes ≤ (2 : Byte).toNat ∧ (tagDiff 5000 (tagAt [0x13, 0x87] 0) < 0 ∧ 47 < tagDiff 5000 (tagAt [0x13, 0xB8] 0)) ∧
      (asked (aligned .run)).tracker.h = some 5000 ∧
      (asked (aligned .run)).tracker.records = [] ++ headRow :: (freshQueue cfg7 5000).drop 1 ∧
      tagAt [0x13, 0x88] 0 = headRow.tag ∧ (1 : Byte).toNat < cfg7.lanes ∧ headRow.lanes[1]?.isSome = true :=
  ⟨asks_all _ (by decide +kernel), by decide +kernel⟩

theorem witness_MonitorAndAlarmsAreSet :
    Asks toolHeader ⟨[], station .seek⟩ (asked (station .seek)) ∧ (asked (station .seek)).control.mode ≠ .start ∧
      (asked (station .seek)).monitor.controls.length = 6 ∧ min 5 (9 : Byte).toNat = 5 :=
  ⟨asks_of _ (by decide +kernel) (by decide +kernel), by decide +kernel⟩

theorem witness_HoldAndReleaseMoveRunAndHold :
    (∀ p ∈ [aligned .run, aligned .hold, halted (aligned .hold), drying .settle], Asks toolHeader ⟨[], p⟩ (asked p)) ∧
      (asked (aligned .run)).control.mode = .run ∧ (asked (aligned .hold)).control.mode = .hold ∧
      (asked (halted (aligned .hold))).control.lineStop = true ∧ (asked (drying .settle)).control.mode = .dry :=
  ⟨asks_all _ (by decide +kernel), by decide +kernel⟩

theorem witness_ResyncAndClearFaultFlush :
    (∀ p ∈ [aligned .run, aligned .fault, station .fault], Asks toolHeader ⟨[], p⟩ (asked p)) ∧
      ((asked (aligned .run)).control.mode = .run ∧ (asked (aligned .run)).sequencer.platen = .opened) ∧
      ((asked (aligned .fault)).control.mode = .fault ∧ (asked (aligned .fault)).pins.openSensor = true ∧
        (asked (aligned .fault)).sampling.converterFault = false ∧ (asked (aligned .fault)).tracker.h = some 5000) ∧
      (asked (station .fault)).tracker.h = none :=
  ⟨asks_all _ (by decide +kernel), by decide +kernel⟩

/-- The part with a configuration of settle delay 0. -/
def brisk (p : Part) : Part := { p with loader := { p.loader with config := some { cfg7 with settle := 0 } } }

theorem witness_ChecksAndDryCyclesAreAsked :
    (∀ p ∈ [station .seek, halted (aligned .hold), brisk (halted (aligned .hold)), unfit (brisk (halted (aligned .hold))),
        drying .settle, drying .dwell], Asks toolHeader ⟨[], p⟩ (asked p)) ∧
      (∀ p ∈ [brisk (halted (aligned .hold)), unfit (brisk (halted (aligned .hold)))],
        (asked p).control.mode = .hold ∧ (asked p).control.lineStop = true ∧ (asked p).sequencer.platen = .opened ∧
          (cfg (asked p)).settle = 0) ∧
      (laneUnfit (asked (brisk (halted (aligned .hold)))) 0 = false ∧
        laneUnfit (asked (unfit (brisk (halted (aligned .hold))))) 0 = true ∧
        laneUnfit (asked (unfit (brisk (halted (aligned .hold))))) 1 = true) ∧
      ((asked (station .seek)).control.mode = .seek ∧ (asked (station .seek)).sequencer.platen = .opened ∧
        (asked (station .seek)).sampling.check = none) ∧
      ((asked (halted (aligned .hold))).control.mode = .hold ∧ (asked (halted (aligned .hold))).control.lineStop = true ∧
        (asked (halted (aligned .hold))).sequencer.platen = .opened ∧ cfg7.settle ≠ 0) ∧
      ((asked (drying .settle)).sequencer.platen = .settle ∧ (asked (drying .settle)).sequencer.dry ≠ none) ∧
      (asked (drying .dwell)).control.mode = .dry ∧
      (∀ q ∈ [Platen.settle, .closing, .dwell, .opening],
        (drying q).control.mode = .dry ∧ (drying q).sequencer.dry = some ⟨5000, false⟩ ∧ (drying q).sequencer.platen = q) ∧
      (cycleLogged (drying .closing)).sequencer.dry = some ⟨5000, true⟩ ∧
      ((aligned .dry).control.mode = .dry ∧ (aligned .dry).sequencer.dry = none) :=
  ⟨asks_all _ (by decide +kernel), by decide +kernel⟩

/-- The part with n replies in its queue. -/
def crowded (n : Nat) : Part := queueing (List.replicate n (reply 1)) (station .seek)

/-- A RESTART that waits for its reply in a full queue. -/
def restartCrowded : Part :=
  restarting (queueing (List.replicate 15 (reply 1) ++ [{ reply 20 with restartReply := true }]) (station .seek))

theorem witness_RestartWaitsOrIsPerformed :
    (∀ p ∈ [crowded 0, crowded 15, crowded 16, restartQueued, restartCrowded], Asks toolHeader ⟨[], p⟩ (asked p)) ∧
      (∀ p ∈ [crowded 0, crowded 15, crowded 16, restartQueued, restartCrowded], (asked p).control.mode ≠ .start) ∧
      (NoRestart (asked (crowded 15)) ∧ (asked (crowded 15)).port.queue.length < 16) ∧
      (NoRestart (asked (crowded 16)) ∧ 16 ≤ (asked (crowded 16)).port.queue.length ∧
        (asked (crowded 16)).port.queue.any TxFrame.restartReply = false ∧ (asked (crowded 16)).pins.resetInput = false) ∧
      ((asked restartQueued).responder.pendingRestart = true ∧ (asked restartQueued).port.queue.length < 16) ∧
      ((asked restartCrowded).responder.pendingRestart = true ∧ 16 ≤ (asked restartCrowded).port.queue.length) :=
  ⟨asks_all _ (by decide +kernel), by decide +kernel, by unfold NoRestart; decide +kernel, by unfold NoRestart; decide +kernel,
    by decide +kernel, by decide +kernel⟩

/-- R192: a second RESTART while one waits queues a reply of its own and leaves the one waited for. -/
theorem test_second_restart :
    (after (.restart toolHeader []) restartQueued).port.queue.map TxFrame.restartReply = [true, false] := by decide +kernel

/-! ## Witnesses: index edges and the platen cycle -/

/-- The part with its last accepted edge at 1000 ms. -/
def edged (p : Part) : Part := { p with tracker := { p.tracker with lastEdge := some 1000, msCount := 1000 } }

theorem witness_IndexEdgesAreTimed :
    (∀ p ∈ [starting .crystal, edged (station .seek), station .seek], Finds ⟨[], p⟩ (ready p)) ∧
      (ready (starting .crystal)).control.mode = .start ∧
      ((ready (edged (station .seek))).tracker.lastEdge = some 1000 ∧ (ready (edged (station .seek))).tracker.h = none) ∧
      1099 - 1000 < cfg7.minIndex ∧ cfg7.minIndex ≤ 1100 - 1000 ∧ (ready (station .seek)).tracker.lastEdge = none :=
  ⟨finds_all _, by decide +kernel⟩

/-- The part with its head row concluded. -/
def concluded (p : Part) : Part := updateHead (fun r => { r with concluded := true }) p

theorem witness_AcceptedIndexAdvancesTheQueue :
    (∀ p ∈ [aligned .run, moved .settle .run, aligned .hold, drying .settle, concluded (aligned .run)],
        Finds ⟨[], p⟩ (ready p)) ∧
      ((ready (aligned .run)).control.mode = .run ∧ (ready (aligned .run)).tracker.h = some 5000 ∧
        (ready (aligned .run)).sequencer.platen = .opened ∧ cfg7.minIndex ≤ 1100 - 1000) ∧
      (ready (moved .settle .run)).sequencer.platen = .settle ∧ (ready (aligned .hold)).control.mode = .hold ∧
      (ready (drying .settle)).control.mode = .dry ∧
      ((ready (aligned .run)).tracker.records.head?.map RowRecord.concluded = some false ∧
        (ready (concluded (aligned .run))).tracker.records.head?.map RowRecord.concluded = some true) :=
  ⟨finds_all _, by decide +kernel⟩

theorem witness_ForcedIndexFaults :
    (∀ p ∈ [moved .closing .run, moved .opening .fault, drying .closing, cycleLogged (drying .opening),
        pressing (headFixed (moved .dwell .run)), headFixed (moved .opening .run), headFixed (drying .closing),
        concluded (moved .opening .run)], Finds ⟨[], p⟩ (ready p)) ∧
      ((ready (moved .closing .run)).tracker.h = some 5000 ∧ (ready (moved .closing .run)).sequencer.platen = .closing ∧
        cfg7.minIndex ≤ 1100 - 1000) ∧
      ((ready (moved .opening .fault)).sequencer.platen = .opening ∧ (ready (moved .opening .fault)).control.mode = .fault) ∧
      ((ready (drying .closing)).sequencer.dry = some ⟨5000, false⟩ ∧ (ready (drying .closing)).control.mode = .dry) ∧
      (ready (cycleLogged (drying .opening))).sequencer.dry = some ⟨5000, true⟩ ∧
      (ready (moved .closing .run)).tracker.records.head?.map RowRecord.frozen = some false ∧
      ((ready (pressing (headFixed (moved .dwell .run)))).tracker.records.head?.map RowRecord.frozen = some true ∧
        (ready (pressing (headFixed (moved .dwell .run)))).dose.closeCommanded = true ∧
        (ready (pressing (headFixed (moved .dwell .run)))).sequencer.dry = none) ∧
      (headFrozen (ready (headFixed (moved .opening .run))) = true ∧
        (ready (headFixed (moved .opening .run))).dose.closeCommanded = false) ∧
      (headFrozen (ready (headFixed (drying .closing))) = true ∧ (ready (headFixed (drying .closing))).sequencer.dry ≠ none) ∧
      (ready (concluded (moved .opening .run))).tracker.records.head?.map RowRecord.concluded = some true :=
  ⟨finds_all _, by decide +kernel⟩

theorem witness_SettleEndClosesOrConcludes :
    (∀ p ∈ [aligned .run, moved .settle .run, moved .settle .hold, drying .settle, unfit (drying .settle)],
        Finds ⟨[], p⟩ (ready p)) ∧
      (ready (aligned .run)).sequencer.platen ≠ .settle ∧
      ((ready (moved .settle .run)).sequencer.settleTimer ≠ none ∧ (ready (moved .settle .run)).sequencer.dry = none ∧
        (freezeRecord (ready (moved .settle .run)) headRow).lanes.any presses = true) ∧
      ((ready (moved .settle .hold)).control.mode = .hold ∧
        (freezeRecord (ready (moved .settle .hold)) headRow).lanes.any presses = false) ∧
      ((ready (drying .settle)).sequencer.dry ≠ none ∧ laneUnfit (ready (drying .settle)) 0 = false) ∧
      (laneUnfit (ready (unfit (drying .settle))) 0 = true ∧ laneUnfit (ready (unfit (drying .settle))) 1 = true) :=
  ⟨finds_all _, by decide +kernel⟩

theorem witness_PlanIsTheFirstMatchingRow :
    headRow.lanes[0]?.isSome = true ∧ (freezeRecord (aligned .run) headRow).lanes.map LaneEntry.plan = [.press, .holdOff] := by
  decide +kernel

/-- The conversions of one tick: every die at 700 qd, the platen at 450 kPa. -/
def hot : Conversions := { thermo := List.replicate 8 (clean 8), pressure := List.replicate 8 1843, reference := [2048] }

/-- The part with the closed sensor active. -/
def shut (p : Part) : Part := { p with pins := { p.pins with closedSensor := true } }

/-- The part with its channels OPEN and a recovery count. -/
def recovering (n : Nat) (p : Part) : Part :=
  { p with sampling := { p.sampling with channels := List.replicate 8 ⟨700, true, n, false⟩ } }

/-- The part with a lane's aim far off. -/
def aiming (n : Nat) (p : Part) : Part :=
  { p with dose := { p.dose with lanes := p.dose.lanes.map (fun l => { l with aim := n }) } }

theorem witness_SampleTickSamplesAndIntegrates :
    (∀ p ∈ [starting .crystal, station .seek, checking 9 0 (station .seek), recovering 14 (station .seek),
        recovering 15 (station .seek), moved .closing .run, shut (touching .inContact (moved .closing .run)),
        unfit (touching .inContact (moved .closing .run)), unfit (touching .inContact (moved .dwell .run)),
        touching .inContact (moved .dwell .run), aiming 9999 (touching .inContact (moved .dwell .run)),
        touching (.lag 1) (moved .dwell .run), touching .inContact (drying .dwell), unheard 16 (station .seek),
        scaled 114 (station .seek)], Finds ⟨[], p⟩ (ready p)) ∧
      (ready (starting .crystal)).loader.config = none ∧ (ready (station .seek)).loader.config = some cfg7 ∧
      ((ready (checking 9 0 (station .seek))).sampling.check ≠ none ∧ (ready (station .seek)).sampling.check = none) ∧
      ((clean 8).take (2 ^ cfg7.averaging) = clean 1 ∧ flagged (clean 1) = false ∧ flagged [⟨700, true⟩] = true) ∧
      ((ready (scaled 114 (station .seek))).regulator.scale < 256 ∧
        (tick hot (ready (scaled 114 (station .seek)))).regulator.ticks < 32) ∧
      16 ≤ (ready (unheard 16 (station .seek))).tracker.quietCount ∧
      ((ready (station .seek)).monitor.frozen = none ∧ (ready (station .seek)).monitor.controls.length = 6 ∧
        (ready (station .seek)).regulator.heaters[7]?.isSome = true ∧ (ready (station .seek)).sequencer.platen = .opened) ∧
      (ready (recovering 14 (station .seek))).sampling.channels[0]? = some ⟨700, true, 14, false⟩ ∧
      (ready (recovering 15 (station .seek))).sampling.channels[0]? = some ⟨700, true, 15, false⟩ ∧
      ((ready (moved .closing .run)).sequencer.platen = .closing ∧ (ready (moved .closing .run)).pins.closedSensor = false ∧
        (ready (moved .closing .run)).sequencer.dry = none ∧
        (tick hot (ready (moved .closing .run))).dose.lanes.all (fun l => l.contact == .ended) = true) ∧
      (let q := ready (unfit (touching .inContact (moved .closing .run)));
        q.sequencer.platen = .closing ∧ q.pins.closedSensor = false ∧ (laneDose q 0).contact = .inContact ∧
          (laneChannel (tick hot q) 0).isOpen = true) ∧
      (let q := ready (shut (touching .inContact (moved .closing .run)));
        q.sequencer.platen = .closing ∧ q.pins.closedSensor = true ∧ cfg7.pmin ≤ (tick hot q).sampling.pressure ∧
          (tick hot q).sequencer.platen = .dwell ∧ (laneChannel (tick hot q) 0).isOpen = false) ∧
      (let q := ready (touching .inContact (moved .dwell .run));
        q.sequencer.platen = .dwell ∧ (laneDose q 0).contact = .inContact ∧ (laneChannel (tick hot q) 0).isOpen = false ∧
          q.sequencer.dry = none ∧ (laneDose q 0).aim = 0) ∧
      (let q := ready (aiming 9999 (touching .inContact (moved .dwell .run)));
        (laneDose q 0).acc = 0 ∧ (laneDose q 0).aim = 9999 ∧ q.dose.lanes[0]?.isSome = true ∧
          0 + (cfg7.lead + 1) * increment cfg7 1600 256 < 9999) ∧
      (let q := ready (unfit (touching .inContact (moved .dwell .run)));
        (laneDose q 0).contact = .inContact ∧ (laneChannel (tick hot q) 0).isOpen = true) ∧
      (let q := ready (touching (.lag 1) (moved .dwell .run));
        (laneDose q 0).contact = .lag 1 ∧ (laneChannel (tick hot q) 0).isOpen = false) ∧
      ((ready (touching .inContact (drying .dwell))).sequencer.platen = .dwell ∧
        (ready (touching .inContact (drying .dwell))).sequencer.dry ≠ none) :=
  ⟨finds_all _, by decide +kernel⟩

/-- R118, R119, R141, R142: at a dwell sample a lag falls by one and a lane whose aim is met gets its lift command; once no lane is in
contact or in lag the platen opens. -/
theorem test_tick_in_dwell :
    (after (.sampleTick hot) (touching (.lag 3) (moved .dwell .run))).dose.lanes.head?.map LaneDose.contact = some (.lag 2) ∧
      (after (.sampleTick hot) (touching .inContact (moved .dwell .run))).dose.lanes.head?.map LaneDose.contact = some (.lag 3) ∧
      (after (.sampleTick hot) (unfit (touching .inContact (moved .dwell .run)))).sequencer.platen = .opening := by
  decide +kernel

/-- The part with some dwell samples taken. -/
def sampled (n : Nat) (p : Part) : Part := { p with dose := { p.dose with samples := n } }

theorem witness_DueCycleEvents :
    (touching (.lag 0) (moved .dwell .run)).dose.lanes =
        [] ++ { LaneDose.reset with contact := .lag 0 } :: List.replicate 7 { LaneDose.reset with contact := .lag 0 } ∧
      (touching (.lag 1) (moved .dwell .run)).dose.lanes.all (fun l => l.contact != .lag 0) = true ∧
      ((moved .dwell .run).sequencer.platen = .dwell ∧ (moved .dwell .run).sequencer.dry = none ∧
        (sampled 300 (moved .dwell .run)).sequencer.dwellLimit ≤ (sampled 300 (moved .dwell .run)).dose.samples) ∧
      (let q := sampled 300 (touching .inContact (drying .dwell));
        q.sequencer.dry ≠ none ∧ cfg7.nconf ≤ q.dose.samples ∧ cfg7.nconf * (0 + 1) / (cfg7.lanes + 1) = 100) ∧
      Finds ⟨[], recovering 15 (station .seek)⟩ (ready (recovering 15 (station .seek))) :=
  ⟨by decide +kernel, by decide +kernel, by decide +kernel, by decide +kernel, found _⟩

/-- The part at the end of a regulation period, with the period count given, its heaters on for 2 ms each. -/
def periodOver (n : Nat) (p : Part) : Part :=
  { p with
    regulator :=
      { p.regulator with ticks := 32, periods := n, heaters := List.replicate 8 ⟨2, 2, true, true⟩, idleClock := 1000 } }

theorem witness_DueUnitEvents :
    ((checking 10 20480 (station .seek)).sampling.check = some ⟨10, 20480, 10⟩ ∧ 20480 / 10 = 2048 ∧
        (station .seek).sampling.factory = 2048) ∧
      (max (20800 / 10) 2048 - min (20800 / 10) 2048 = 4 * cfg7.refTol ∧
        4 * cfg7.refTol < max (20810 / 10) 2048 - min (20810 / 10) 2048) ∧
      ((starting .checking).loader.phase = .checking ∧ (starting .checking).sequencer.platen ≠ .opened ∧
        (station .seek).loader.phase ≠ .checking) ∧
      (checking 9 0 (station .seek)).sampling.check = some ⟨9, 0, 10⟩ ∧
      ((station .seek).regulator.ticks < 32 ∧ 32 ≤ (periodOver 2 (station .seek)).regulator.ticks ∧
        (periodOver 2 (station .seek)).regulator.periods < 3 ∧ 3 ≤ (periodOver 3 (station .seek)).regulator.periods) ∧
      (periodOver 3 (aligned .run)).regulator.heaters = [] ++ ⟨2, 2, true, true⟩ :: List.replicate 7 ⟨2, 2, true, true⟩ ∧
      1000 * cfg7.idleTimeout ≤ (periodOver 3 (aligned .run)).regulator.idleClock ∧
      ((starting .checking).control.mode = .start ∧ (starting .checking).pins.stopInput = false ∧
        (stopActive (starting .checking)).pins.stopInput = true) := by decide +kernel

/-- The part with the consecutive close-timeout count given. -/
def timedOut (n : Nat) (p : Part) : Part := { p with sequencer := { p.sequencer with closeTimeouts := n } }

theorem witness_PlatenTimersAndArrival :
    (∀ p ∈ [moved .closing .run, timedOut 2 (moved .closing .run), drying .closing, aligned .run, moved .opening .run,
        { drying .opened with pins := (aligned .dry).pins }, drying .settle, pressing (headFixed (moved .opening .run)),
        cycleDue (drying .opening), cycleLogged (drying .opening), realigning (moved .opening .run),
        waiting (starting .crystal)], Finds ⟨[], p⟩ (ready p)) ∧
      ((ready (moved .closing .run)).sequencer.closeTimer ≠ none ∧ (ready (moved .closing .run)).sequencer.dry = none) ∧
      min 3 ((ready (timedOut 2 (moved .closing .run))).sequencer.closeTimeouts + 1) = 3 ∧
      (ready (drying .closing)).sequencer.dry = some ⟨5000, false⟩ ∧ (ready (aligned .run)).sequencer.platen = .opened ∧
      ((ready (moved .opening .run)).sequencer.platen = .opening ∧ (ready (moved .opening .run)).sequencer.openTimer ≠ none ∧
        (ready (moved .opening .run)).loader.phase ≠ .off ∧ (ready (moved .opening .run)).sequencer.dryDue = false) ∧
      ((ready (drying .opened)).sequencer.platen = .opened ∧ (ready (drying .opened)).sequencer.dryTimer ≠ none) ∧
      (ready (drying .settle)).sequencer.platen ≠ .opened ∧
      ((ready (pressing (headFixed (moved .opening .run)))).dose.closeCommanded = true ∧
        headFrozen (ready (pressing (headFixed (moved .opening .run)))) = true) ∧
      ((ready (cycleDue (drying .opening))).sequencer.platen = .opening ∧
        (ready (cycleDue (drying .opening))).sequencer.dry = some ⟨5000, false⟩ ∧
        (ready (cycleDue (drying .opening))).sequencer.dryDue = true ∧
        (ready (cycleDue (drying .opening))).control.mode = .dry) ∧
      (ready (cycleLogged (drying .opening))).sequencer.dry = some ⟨5000, true⟩ ∧
      ((ready (realigning (moved .opening .run))).tracker.pendingRealign = some ⟨1, 5000⟩ ∧
        (ready (realigning (moved .opening .run))).tracker.h = some 5000) ∧
      ((ready (waiting (starting .crystal))).loader.phase = .waiting ∧
        (ready (waiting (starting .crystal))).sequencer.platen = .opening) :=
  ⟨finds_all _, by decide +kernel⟩

/-- The part whose dwell log is full. -/
def fullLog (p : Part) : Part := { p with log := { p.log with entries := List.replicate 64 entry } }

/-- The part whose head row's first lane is NOT PRESSED. -/
def unpressed (p : Part) : Part :=
  updateHead (fun r => { r with lanes := r.lanes.map (fun e => { e with plan := .notPressed, planReason := .notNeeded }) }) p

theorem witness_ConclusionFilesTheRow :
    (headFixed (aligned .run)).tracker.records.head?.map RowRecord.frozen = some true ∧
      (aligned .run).tracker.records = headRow :: (freshQueue cfg7 5000).drop 1 ∧ headRow.concluded = false ∧
      headRow.frozen = false ∧
      (after .settleEnd (moved .settle .run)).dose.closeCommanded = true ∧
      (fullLog (pressing (headFixed (moved .opening .run)))).log.entries.length = 64 ∧
      ((unpressed (headFixed (aligned .run))).tracker.records.head?.bind (fun r => r.lanes[0]?)).map LaneEntry.plan =
        some .notPressed ∧
      (concluded (aligned .run)).tracker.records.head?.map RowRecord.concluded = some true := by decide +kernel

/-- R149, R184: a conclusion at the arrival with the log full raises LOG_OVERFLOW. -/
theorem test_conclusion_overflows_the_log :
    alarmSet .logOverflow (concludeHead .arrival (fullLog (pressing (headFixed (moved .opening .run))))) = true := by
  decide +kernel

theorem witness_FaultEntryAndFurtherFaults :
    (aligned .fault).control.mode = .fault ∧ (aligned .run).control.mode ≠ .fault ∧
      (closing (moved .dwell .run).sequencer.platen = true ∧ (moved .dwell .run).sequencer.dry = none) ∧
      closing (aligned .run).sequencer.platen = false := by decide +kernel

/-! ## Witnesses: counting, encodings and arithmetic -/

/-- A counter's controls that select an event. -/
def selecting (n : Nat) : Control := { Control.reset with select := n, mask := 1, enable := true }

/-- The part whose counters 0 to 5 select the six condition events. -/
def watching (p : Part) : Part :=
  { p with monitor := { p.monitor with controls := [23, 24, 25, 26, 27, 28].map selecting } }

theorem witness_EventsAreCounted :
    (watching (aligned .run)).monitor.controls[0]? = some (selecting 23) ∧
      (watching (aligned .run)).monitor.controls[5]? = some (selecting 28) ∧
      (watching (aligned .run)).monitor.counters[5]? = some Counter.reset ∧ (watching (aligned .run)).monitor.frozen = none ∧
      (selecting 22).select = 22 ∧ (selecting 22).enable = true ∧ (frozenCounters (aligned .run)).monitor.frozen ≠ none ∧
      (selecting 23).mask ≠ 0 ∧ Control.reset.enable = false := by
  decide +kernel

theorem witness_ThresholdDecidesTheAddition :
    (watching (station .seek)).monitor.frozen = none ∧
      (watching (station .seek)).monitor.controls[1]? = some (selecting 24) ∧ (selecting 1).select = eventCode .index ∧
      (selecting 1).enable = true ∧ (selecting 1).mask.getLsbD 0 = true ∧
      ({ selecting 1 with threshold := 12 }.threshold ≤ 12 ∧ 11 < { selecting 1 with threshold := 12 }.threshold) := by
  decide +kernel

theorem witness_WireFrameRoundTrip : (⟨21, toolHeader, List.replicate 32 0xFF⟩ : RxFrame).payload.length ≤ 32 := by
  decide +kernel

theorem witness_PayloadsReadBack :
    (let x := { report 5000 with lanes := List.replicate 8 ⟨65535, .doubt, .notNeeded, true, true, true⟩ };
      1 ≤ x.stage ∧ x.stage ≤ 4 ∧ 1 ≤ x.lanes.length ∧ x.lanes.length ≤ 8 ∧ x.lanes.all (fun l => decide (l.dose ≤ 65535)) = true) ∧
      (3 ≤ 3 ∧ 65535 ≤ 65535) ∧ (selecting 28).select ≤ 28 := by decide +kernel

theorem witness_AimStaysBelowDmax :
    (∀ j : Nat,
        (j ∈ headRow.upstreamVoided → (if j = 1 then 7200 else [2750, 3250, 0, 0].getD (j - 1) 0) =
          [cfg7.share1, cfg7.share2, cfg7.share3, cfg7.share4].getD (j - 1) 0) ∧
        (j ∉ headRow.upstreamVoided → (∀ x ∈ (stage1 7200).contributions, x.stage ≠ j) →
          (if j = 1 then 7200 else [2750, 3250, 0, 0].getD (j - 1) 0) =
            [cfg7.share1, cfg7.share2, cfg7.share3, cfg7.share4].getD (j - 1) 0) ∧
        ∀ (a b : List Contribution) (x : Contribution), j ∉ headRow.upstreamVoided → (stage1 7200).contributions = a ++ x :: b →
          (∀ y ∈ a, y.stage ≠ j) → x.stage = j → (if j = 1 then 7200 else [2750, 3250, 0, 0].getD (j - 1) 0) = x.dose) ∧
      prior cfg7 headRow (stage1 7200) ≤ cfg7.dmax ∧ ¬prior cfg7 headRow (stage1 7201) ≤ cfg7.dmax ∧ cfg7.stage = cfg7.stages ∧
      { cfg7 with stage := 1 }.stage ≠ { cfg7 with stage := 1 }.stages := by
  refine ⟨fun j => ⟨fun h => ?_, fun _ h => ?_, fun a b x _ h _ hj => ?_⟩, by decide +kernel⟩
  · exact absurd h List.not_mem_nil
  · rw [if_neg (fun e => h _ List.mem_cons_self e.symm)]; rfl
  · cases a with
    | nil => obtain ⟨rfl, -⟩ := List.cons.inj h; exact if_pos hj.symm
    | cons y a => cases a <;> simp [stage1] at h

theorem witness_DoseLimits :
    (149 < cfg7.pmin ∧ cfg7.pmin ≤ 150 ∧ cfg7.pref ≤ 400 ∧ 0 < cfg7.pref) ∧ (440 ≤ cfg7.tact ∧ cfg7.tact < 441) ∧
      1048567 ≤ 1048567 := by decide +kernel

theorem witness_DwellLimitFromThePeriod : cfg7.nmin ≤ cfg7.nconf := by decide +kernel

theorem witness_DutiesAndScaleFactor :
    (station .seek).regulator.heaters[7]? = some Heater.reset ∧
      (computeDuties (station .seek)).regulator.heaters[7]?.isSome = true ∧ cfg7.budget ≠ 0 ∧ cfg7.cls = .b ∧
      cfg7.budget < 4800 + classDemand .a draws7 + classDemand .b draws7 ∧
      ({ cfg7 with cls := .a }.cls = .a ∧ 4400 + classDemand .a draws7 ≤ { cfg7 with cls := .a }.budget ∧
        { cfg7 with cls := .a }.budget < 8000 + classDemand .a draws7) := by decide +kernel

theorem witness_AdditionWrapsAtFortyBits :
    (⟨1099511627775, false⟩ : Counter).value < counterModulus ∧ 1 ≤ counterModulus := by decide +kernel

end Sys2Proof.Tests
end

section
/-! The plan freeze (R63 to R65): the flags of a lane's prior as quantified statements over the upstream stages, the hold-off table as
a list of rows, and O43 from them. -/

namespace Sys2Proof.Machine.PlanFreeze

variable (c : Configuration) (r : RowRecord) (held unfit : Bool) (e : LaneEntry)

/-! ## The flags of the prior (R64) -/

theorem mem_upstreamStages (j : Nat) : j ∈ upstreamStages c ↔ 1 ≤ j ∧ j < c.stage := by
  simp only [upstreamStages, List.mem_map, List.mem_range]
  constructor
  · rintro ⟨k, hk, rfl⟩
    omega
  · intro ⟨hpos, hlt⟩
    exact ⟨j - 1, by omega, by omega⟩

theorem contributionOf_eq_none_iff (j : Nat) : contributionOf e j = none ↔ ∀ x ∈ e.contributions, x.stage ≠ j := by
  simp only [contributionOf, List.find?_eq_none, beq_iff_eq, ne_eq]

theorem laneVoided_iff : laneVoided c r = true ↔ ∃ j, 1 ≤ j ∧ j < c.stage ∧ j ∈ r.upstreamVoided := by
  simp only [laneVoided, List.any_eq_true, mem_upstreamStages, List.contains_iff_mem, and_assoc]

theorem laneAssumed_iff :
    laneAssumed c r e = true ↔
      ∃ j, 1 ≤ j ∧ j < c.stage ∧ j ∉ r.upstreamVoided ∧ ∀ x ∈ e.contributions, x.stage ≠ j := by
  simp only [laneAssumed, List.any_eq_true, mem_upstreamStages, Bool.and_eq_true, Bool.not_eq_true', Option.isNone_iff_eq_none,
    contributionOf_eq_none_iff, List.contains_eq_mem, decide_eq_false_iff_not, and_assoc]

/-! ## The hold-off table as a list of rows (R65) -/

/-- What the first row whose condition holds gives. -/
def firstMatch {α : Type} (rows : List (Bool × α)) : Option α := (rows.find? Prod.fst).map Prod.snd

theorem firstMatch_nil {α : Type} : firstMatch ([] : List (Bool × α)) = none := rfl

theorem firstMatch_cons {α : Type} (b : Bool) (v : α) (rows : List (Bool × α)) :
    firstMatch ((b, v) :: rows) = if b = true then some v else firstMatch rows := by
  cases b <;> rfl

theorem firstMatch_append {α : Type} (rows rest : List (Bool × α)) :
    firstMatch (rows ++ rest) = (firstMatch rows).or (firstMatch rest) := by
  simp only [firstMatch, List.find?_append, Option.map_or]

/-- Rows 1 to 9 of the table, all of plan HOLD-OFF. -/
def holdOffRows : List (Bool × Plan × Reason) :=
  [(held, .holdOff, .station), (unfit, .holdOff, .noHeat),
    (hasUpstream e .skipped, .holdOff, .upstream), (hasUpstream e .over, .holdOff, .overdose),
    (e.card == some .missing || e.card == some .skewed, .holdOff, .noCard),
    (e.card == none && !cardUnknownPress c, .holdOff, .unknown), (e.formed == some .bad, .holdOff, .badForm),
    (e.load == some .over, .holdOff, .crush), (e.load == none && loadUnknownHold c, .holdOff, .unknown)]

/-- Rows 10 and 11, which decide a lane that no row before holds off. -/
def pressRows : List (Bool × Plan × Reason) := [(aimOf c r e == 0, .notPressed, .notNeeded), (true, .press, .none)]

/-- Both sides are the same chain of conditions once the Boolean ones are read as propositions. -/
theorem firstMatch_holdOffRows :
    firstMatch (holdOffRows c held unfit e) = (holdOffReason c held unfit e).map (fun reason => (Plan.holdOff, reason)) := by
  simp only [holdOffRows, holdOffReason, firstMatch_cons, firstMatch_nil, Bool.or_eq_true, Bool.and_eq_true, beq_iff_eq,
    Bool.not_eq_true', apply_ite (Option.map _), Option.map_some, Option.map_none]

theorem firstMatch_pressRows :
    firstMatch (pressRows c r e) = some (if aimOf c r e = 0 then (.notPressed, .notNeeded) else (.press, .none)) := by
  simp only [pressRows, firstMatch_cons, beq_iff_eq, if_true, apply_ite some]

theorem modeHoldsOff_eq (m : Mode) : modeHoldsOff m = (m == .hold || m == .dry || m == .fault) := by
  cases m <;> rfl

/-! ## The lane as the freeze leaves it -/

/-- The lane with the flags of its prior fixed, before its plan is. -/
def withFlags : LaneEntry := { e with assumed := laneAssumed c r e, voided := laneVoided c r }

theorem planLane_of_holdOff {reason : Reason} (h : holdOffReason c held unfit e = some reason) :
    planLane c r held unfit e = { withFlags c r e with plan := .holdOff, planReason := reason, aim := 0 } := by
  have hflags : holdOffReason c held unfit (withFlags c r e) = some reason := h
  rw [withFlags] at hflags
  simp only [planLane, hflags, withFlags]

theorem planLane_of_none (h : holdOffReason c held unfit e = none) :
    planLane c r held unfit e =
      if aimOf c r e = 0 then { withFlags c r e with plan := .notPressed, planReason := .notNeeded, aim := 0 }
      else { withFlags c r e with plan := .press, planReason := .none, aim := aimOf c r e } := by
  have hflags : holdOffReason c held unfit (withFlags c r e) = none := h
  rw [withFlags] at hflags
  simp only [planLane, hflags]
  rfl

/-- The three outcomes of the freeze of a lane: held off, not pressed for want of an aim, or pressed with its aim. -/
theorem planLane_cases :
    (∃ reason, holdOffReason c held unfit e = some reason ∧
        planLane c r held unfit e = { withFlags c r e with plan := .holdOff, planReason := reason, aim := 0 }) ∨
      (holdOffReason c held unfit e = none ∧ aimOf c r e = 0 ∧
        planLane c r held unfit e = { withFlags c r e with plan := .notPressed, planReason := .notNeeded, aim := 0 }) ∨
      (holdOffReason c held unfit e = none ∧ aimOf c r e ≠ 0 ∧
        planLane c r held unfit e = { withFlags c r e with plan := .press, planReason := .none, aim := aimOf c r e }) := by
  cases hreason : holdOffReason c held unfit e with
  | some reason => exact .inl ⟨reason, rfl, planLane_of_holdOff c r held unfit e hreason⟩
  | none =>
    have hplan := planLane_of_none c r held unfit e hreason
    by_cases haim : aimOf c r e = 0
    · exact .inr (.inl ⟨rfl, haim, hplan.trans (if_pos haim)⟩)
    · exact .inr (.inr ⟨rfl, haim, hplan.trans (if_neg haim)⟩)

theorem planLane_flags :
    (planLane c r held unfit e).assumed = laneAssumed c r e ∧ (planLane c r held unfit e).voided = laneVoided c r := by
  obtain ⟨_, -, hplan⟩ | ⟨-, -, hplan⟩ | ⟨-, -, hplan⟩ := planLane_cases c r held unfit e <;> rw [hplan] <;>
    exact ⟨rfl, rfl⟩

theorem planLane_aim :
    (planLane c r held unfit e).aim = if (planLane c r held unfit e).plan = .press then aimOf c r e else 0 := by
  obtain ⟨_, -, hplan⟩ | ⟨-, -, hplan⟩ | ⟨-, -, hplan⟩ := planLane_cases c r held unfit e <;> rw [hplan] <;> rfl

theorem firstMatch_planLane :
    firstMatch (holdOffRows c held unfit e ++ pressRows c r e) =
      some ((planLane c r held unfit e).plan, (planLane c r held unfit e).planReason) := by
  rw [firstMatch_append, firstMatch_holdOffRows, firstMatch_pressRows]
  obtain ⟨_, hreason, hplan⟩ | ⟨hreason, haim, hplan⟩ | ⟨hreason, haim, hplan⟩ := planLane_cases c r held unfit e
  · rw [hreason, hplan]; rfl
  · rw [hreason, hplan, if_pos haim]; rfl
  · rw [hreason, hplan, if_neg haim]; rfl

theorem freezeRecord_lane {p : Part} {i : Nat} {x : LaneEntry} (he : r.lanes[i]? = some e)
    (hx : (freezeRecord p r).lanes[i]? = some x) :
    x = planLane (cfg p) r (modeHoldsOff p.control.mode) (laneUnfit p i) e := by
  have hlane : (freezeRecord p r).lanes[i]? = some (planLane (cfg p) r (modeHoldsOff p.control.mode) (laneUnfit p i) e) := by
    simp only [freezeRecord, mapIndexed_getElem?, he, Option.map_some]
  exact Option.some.inj (hx.symm.trans hlane)

/-- Settles O43: rows 1 to 9 decide as `holdOffReason` does, rows 10 and 11 as the aim does. -/
theorem planIsTheFirstMatchingRow : Obligations.PlanIsTheFirstMatchingRow := by
  intro p row i e x he hx
  have hlane := freezeRecord_lane row e he hx
  obtain ⟨hassumed, hvoided⟩ := planLane_flags (cfg p) row (modeHoldsOff p.control.mode) (laneUnfit p i) e
  subst hlane
  refine ⟨?assumed, ?voided, planLane_aim .., _, rfl, ?firstRow⟩
  case assumed => rw [hassumed, laneAssumed_iff]
  case voided => rw [hvoided, laneVoided_iff]
  case firstRow =>
    rw [← modeHoldsOff_eq]
    exact firstMatch_planLane (cfg p) row (modeHoldsOff p.control.mode) (laneUnfit p i) e

end Sys2Proof.Machine.PlanFreeze
end

section
/-! The outputs after every command (R100, R112, R124, R169): each command, from outside or due, ends in `finish`, which drives the
pins last; so an output is what its own definition gives on the part left, and O8 is this for PERMIT. -/

namespace Sys2Proof.Machine.DrivenOutputs

/-! ## Every command ends by driving the outputs -/

/-- A command from outside ends in `finish` by `run`, a due event and POWER-ON by `runDue`; no command ends otherwise. -/
theorem exec_finishes (c : Instr) (s : State) : ∃ p, exec c s = .next { s with part := finish p } := by
  cases c <;> exact ⟨_, rfl⟩

/-- The part that a command leaves is one whose outputs have just been driven. -/
theorem eq_drive_of_takes {c : Instr} {s : State} {t : Part} (ht : Takes c s t) : ∃ p, t = drive p := by
  obtain ⟨p, hexec⟩ := exec_finishes c s
  have hnext : (Host.Outcome.next { s with part := t } : Host.Outcome State Fault Refusal) =
      .next { s with part := finish p } := ht.symm.trans hexec
  injection hnext with hstate
  exact ⟨conclude p, congrArg State.part hstate⟩

/-! ## PERMIT (R124) -/

theorem permitOutput_iff (p : Part) :
    permitOutput p = true ↔
      p.sequencer.platen = .opened ∧ p.pins.openSensor = true ∧ p.control.mode ≠ .start ∧ p.control.mode ≠ .fault := by
  simp only [permitOutput, Bool.and_eq_true, Bool.not_eq_true', beq_iff_eq, beq_eq_false_iff_ne, and_assoc]

theorem drive_permit (p : Part) : (drive p).pins.permit = permitOutput p := rfl

/-- Driving the outputs writes none of what PERMIT is made from: the platen state, the open sensor and the mode. -/
theorem permitOutput_drive (p : Part) : permitOutput (drive p) = permitOutput p := rfl

/-- Settles O8: the part left is a driven one, and its PERMIT is `permitOutput` of that same part. -/
theorem permitFollowsItsConditions : Obligations.PermitFollowsItsConditions := by
  intro c s t ht
  obtain ⟨p, rfl⟩ := eq_drive_of_takes ht
  rw [drive_permit, ← permitOutput_drive]
  exact permitOutput_iff (drive p)

end Sys2Proof.Machine.DrivenOutputs
end

section
/-! An occurrence at one counter (R174, R175): which counter it reaches, what the reached counter adds, and O59 from the two. -/

namespace Sys2Proof.Machine.CounterAdditions

/-! ## The counter that an occurrence reaches (R174) -/

theorem addAll_of_not_frozen (f : Control → Nat) {m : Monitor} (hfrozen : m.frozen = none) :
    addAll f m = { m with counters := addEach f m.controls m.counters } := by
  simp only [addAll, hfrozen, Option.isSome_none, Bool.false_eq_true, if_false]

section

variable {m : Monitor} {i : Nat} {k : Control} {c : Counter} (hfrozen : m.frozen = none) (hcontrol : m.controls[i]? = some k)
  (hcounter : m.counters[i]? = some c)

include hfrozen hcontrol hcounter

theorem addAll_counters_getElem? (f : Control → Nat) : (addAll f m).counters[i]? = some (addTo c (f k)) := by
  simp only [addAll_of_not_frozen f hfrozen, addEach_getElem?, hcontrol, hcounter, Option.map_some]

/-- A counter that the occurrence does not reach adds 0, which leaves it. -/
theorem occur_counters_getElem? (e : Event) (n : Nat) :
    (occur e n m).counters[i]? = some (if k.enable = true ∧ k.select = eventCode e then addTo c (added k n) else c) := by
  simp only [occur, addAll_counters_getElem? hfrozen hcontrol hcounter, Bool.and_eq_true, beq_iff_eq, apply_ite (addTo c),
    addTo_zero]

/-- A lane event asks for the counter's mask as well. -/
theorem occurLane_counters_getElem? (e : Event) (lane n : Nat) :
    (occurLane e lane n m).counters[i]? =
      some (if k.enable = true ∧ k.select = eventCode e ∧ k.mask.getLsbD lane = true then addTo c (added k n) else c) := by
  simp only [occurLane, addAll_counters_getElem? hfrozen hcontrol hcounter, Bool.and_eq_true, beq_iff_eq, and_assoc,
    apply_ite (addTo c), addTo_zero]

end

/-! ## What the reached counter adds (R175) -/

section

variable {k : Control} (n : Nat)

theorem added_of_threshold_zero (hzero : k.threshold = 0) : added k n = n := if_pos hzero

theorem added_of_invert_clear (hpos : k.threshold ≠ 0) (hclear : k.invert = false) :
    added k n = if k.threshold ≤ n then 1 else 0 := by
  simp only [added, hpos, hclear, Bool.false_eq_true, if_false]

theorem added_of_invert_set (hpos : k.threshold ≠ 0) (hset : k.invert = true) :
    added k n = if n < k.threshold then 1 else 0 := by
  simp only [added, hpos, hset, if_true, if_false]

/-- The rows of R175's table cover every control, so an amount that agrees with each of them is the one added. -/
theorem eq_added {amount : Nat} (hsum : k.threshold = 0 → amount = n)
    (hclear : k.threshold ≠ 0 → k.invert = false → amount = if k.threshold ≤ n then 1 else 0)
    (hset : k.threshold ≠ 0 → k.invert = true → amount = if n < k.threshold then 1 else 0) : amount = added k n := by
  by_cases hzero : k.threshold = 0
  · rw [hsum hzero, added_of_threshold_zero n hzero]
  · cases hinvert : k.invert with
    | false => rw [hclear hzero hinvert, added_of_invert_clear n hzero hinvert]
    | true => rw [hset hzero hinvert, added_of_invert_set n hzero hinvert]

end

/-- Settles O59: the amount of R175's table is `added`, and an enabled counter that selects the event adds that. -/
theorem thresholdDecidesTheAddition : Obligations.ThresholdDecidesTheAddition := by
  intro m i lane n k c e amount hfrozen hcontrol hcounter henable hselect ⟨hsum, hclear, hset⟩
  have hstation : (occur e n m).counters[i]? = some (addTo c (added k n)) := by
    rw [occur_counters_getElem? hfrozen hcontrol hcounter, if_pos ⟨henable, hselect⟩]
  rw [eq_added n hsum hclear hset]
  refine ⟨hstation, fun hmask => ?lane, fun hn hzero => ?nothing⟩
  case lane => rw [occurLane_counters_getElem? hfrozen hcontrol hcounter, if_pos ⟨henable, hselect, hmask⟩]
  case nothing => rw [hstation, added_of_threshold_zero n hzero, hn, addTo_zero]

end Sys2Proof.Machine.CounterAdditions
end

section
/-! The transmit queue as a list (R17, R20, R22): which changes of the queue keep its order and limits. -/

namespace Sys2Proof.Machine.TransmitQueue

variable {q q' : List TxFrame} {f g : TxFrame}

/-! ## Changes that keep the order and the limits -/

/-- A queue that has lost frames keeps its limits. -/
theorem ok_of_sublist (hsub : q'.Sublist q) (hq : TransmitQueueOk q) : TransmitQueueOk q' := by
  obtain ⟨hlength, horder, hsending, hdraw, htags⟩ := hq
  exact ⟨hsub.length_le.trans hlength, horder.sublist hsub, (hsub.filter _).length_le.trans hsending,
    (hsub.filter _).length_le.trans hdraw, htags.sublist (hsub.filterMap _)⟩

/-- The limits, but for the one in transmission, are about what the frames say. -/
theorem ok_of_bodies (hbodies : q'.map TxFrame.body = q.map TxFrame.body) (hsending : (q'.filter TxFrame.sending).length ≤ 1)
    (hq : TransmitQueueOk q) : TransmitQueueOk q' := by
  obtain ⟨hlength, horder, -, hdraw, htags⟩ := hq
  have hdraws (l : List TxFrame) : (l.filter fun x => isDraw x.body).length = ((l.map TxFrame.body).filter isDraw).length := by
    rw [List.filter_map, List.length_map]; rfl
  have hreports (l : List TxFrame) :
      (l.filterMap fun x => reportTag x.body) = (l.map TxFrame.body).filterMap reportTag := by
    rw [List.filterMap_map]; rfl
  refine ⟨?_, ?_, hsending, ?_, ?_⟩
  · simpa only [List.length_map] using (congrArg List.length hbodies).trans_le (by simpa only [List.length_map] using hlength)
  · have hsorted : (q.map TxFrame.body).Pairwise (fun x y => priority x ≤ priority y) := List.pairwise_map.2 horder
    rw [← hbodies] at hsorted
    exact (List.pairwise_map (f := TxFrame.body)).1 hsorted
  · rwa [hdraws, hbodies, ← hdraws]
  · rwa [hreports, hbodies, ← hreports]

/-- The number of frames in transmission is about their marks alone. -/
theorem sending_length_of_marks (hmarks : q'.map TxFrame.sending = q.map TxFrame.sending) :
    (q'.filter TxFrame.sending).length = (q.filter TxFrame.sending).length := by
  have hcount (l : List TxFrame) : (l.filter TxFrame.sending).length = ((l.map TxFrame.sending).filter id).length := by
    rw [List.filter_map, List.length_map]; rfl
  rw [hcount, hmarks, ← hcount]

/-- Placing a frame only adds it to the queue. -/
theorem place_perm (f : TxFrame) (q : List TxFrame) : (place f q).Perm (f :: q) := by
  induction q with
  | nil => exact .refl _
  | cons x q ih =>
    unfold place
    split
    · exact (ih.cons x).trans (.swap f x q)
    · exact .refl _

/-- A frame not in transmission takes its place in a queue with room and with nothing for it to replace. -/
theorem ok_place (hsending : f.sending = false) (hroom : q.length < 16)
    (hdraw : isDraw f.body = true → ∀ x ∈ q, isDraw x.body = false)
    (htag : ∀ t, reportTag f.body = some t → ∀ x ∈ q, reportTag x.body ≠ some t) (hq : TransmitQueueOk q) :
    TransmitQueueOk (place f q) := by
  obtain ⟨-, horder, hone, hdraws, htags⟩ := hq
  have hperm := place_perm f q
  refine ⟨by rw [place_length]; omega, place_sorted f q horder, ?_, ?_, ?_⟩
  · rw [(hperm.filter _).length_eq, List.filter_cons_of_neg (by simp [hsending])]
    exact hone
  · rw [(hperm.filter _).length_eq]
    by_cases hf : isDraw f.body = true
    · have hnone : (q.filter fun x => isDraw x.body) = [] :=
        List.filter_eq_nil_iff.2 fun x hx => by rw [hdraw hf x hx]; exact Bool.false_ne_true
      rw [List.filter_cons, if_pos hf, hnone]; exact Nat.le_refl 1
    · rw [List.filter_cons, if_neg hf]; exact hdraws
  · rw [(hperm.filterMap _).nodup_iff]
    cases ht : reportTag f.body with
    | none => simpa only [List.filterMap_cons, ht] using htags
    | some t =>
      simp only [List.filterMap_cons, ht]
      refine List.nodup_cons.2 ⟨fun hmem => ?_, htags⟩
      obtain ⟨x, hx, hxt⟩ := List.mem_filterMap.1 hmem
      exact htag t ht x hx hxt

/-! ## What a joining frame replaces (R20) -/

theorem replaces_of_draw (hf : isDraw f.body = true) : replaces f g = isDraw g.body := by
  unfold replaces
  cases hb : f.body <;> simp_all [isDraw]

theorem replaces_of_report {r : SealReport} (hf : f.body = .sealReport r) :
    replaces f g = (reportTag g.body == some r.tag) := by
  unfold replaces; rw [hf]

theorem report_of_reportTag {b : FrameBody} {t : Tag} (h : reportTag b = some t) : ∃ r, b = .sealReport r ∧ r.tag = t := by
  cases b with
  | sealReport r => exact ⟨r, rfl, Option.some.inj h⟩
  | _ => exact absurd h (by simp [reportTag])

/-- The frame with which a joining frame has a tag in common is one that it replaces. -/
theorem replaces_of_tag {t : Tag} (hf : reportTag f.body = some t) (hg : reportTag g.body = some t) : replaces f g = true := by
  obtain ⟨r, hr, rfl⟩ := report_of_reportTag hf
  rw [replaces_of_report hr, hg]; exact beq_self_eq_true _

theorem tag_of_replaces {t : Tag} (hf : reportTag f.body = some t) (h : replaces f g = true) : reportTag g.body = some t := by
  obtain ⟨r, hr, rfl⟩ := report_of_reportTag hf
  rw [replaces_of_report hr] at h; exact eq_of_beq h

/-- Nothing replaceable in the queue: the frame can take a place. -/
theorem ok_place_of_no_match (hsending : f.sending = false) (hroom : q.length < 16) (hnone : ∀ x ∈ q, replaces f x = false)
    (hq : TransmitQueueOk q) : TransmitQueueOk (place f q) := by
  refine ok_place hsending hroom (fun hf x hx => ?_) (fun t ht x hx hxt => ?_) hq
  · rw [← replaces_of_draw hf]; exact hnone x hx
  · exact absurd (replaces_of_tag ht hxt) (by simp [hnone x hx])

/-- A DRAW NOTICE or a report of the same tag takes the place of the one that it replaces. -/
theorem ok_place_of_match {a b : List TxFrame} (hsending : f.sending = false) (hg : replaces f g = true)
    (hq : TransmitQueueOk (a ++ g :: b)) : TransmitQueueOk (place f (a ++ b)) := by
  have hperm : (a ++ g :: b).Perm (g :: (a ++ b)) := List.perm_middle
  have hrest : TransmitQueueOk (a ++ b) := ok_of_sublist ((List.sublist_cons_self g b).append_left a) hq
  obtain ⟨hlength, -, -, hdraws, htags⟩ := hq
  refine ok_place hsending (by simp at hlength ⊢; omega) (fun hf x hx => ?_) (fun t ht x hx hxt => ?_) hrest
  · rw [(hperm.filter _).length_eq, List.filter_cons, if_pos (by rwa [← replaces_of_draw hf])] at hdraws
    have hnil : ((a ++ b).filter fun y => isDraw y.body) = [] := List.eq_nil_of_length_eq_zero (by simpa using hdraws)
    simpa using List.filter_eq_nil_iff.1 hnil x hx
  · rw [(hperm.filterMap _).nodup_iff] at htags
    simp only [List.filterMap_cons, tag_of_replaces ht hg] at htags
    exact (List.nodup_cons.1 htags).1 (List.mem_filterMap.2 ⟨x, hx, hxt⟩)

/-! ## The full-queue rule (R22) -/

/-- The step of `worstPriority` over the queue. -/
def worseOf (m : Nat) (x : TxFrame) : Nat := if x.sending then m else max m (priority x.body)

theorem foldl_worseOf_le {m n : Nat} (hm : m ≤ n) (hq : ∀ x ∈ q, x.sending = false → priority x.body ≤ n) :
    q.foldl worseOf m ≤ n := by
  induction q generalizing m with
  | nil => exact hm
  | cons x q ih =>
    refine ih ?_ fun y hy => hq y (List.mem_cons_of_mem x hy)
    unfold worseOf
    split
    · exact hm
    · exact Nat.max_le.2 ⟨hm, hq x List.mem_cons_self (by simp_all)⟩

theorem le_foldl_worseOf (m : Nat) (q : List TxFrame) : m ≤ q.foldl worseOf m := by
  induction q generalizing m with
  | nil => exact Nat.le_refl m
  | cons x q ih =>
    refine Nat.le_trans ?_ (ih (worseOf m x))
    unfold worseOf; split <;> omega

theorem priority_le_foldl_worseOf {m : Nat} (hg : g ∈ q) (hidle : g.sending = false) : priority g.body ≤ q.foldl worseOf m := by
  induction q generalizing m with
  | nil => exact absurd hg List.not_mem_nil
  | cons x q ih =>
    rcases List.mem_cons.1 hg with rfl | hg
    · refine Nat.le_trans ?_ (le_foldl_worseOf _ q)
      simp [worseOf, hidle]
    · exact ih hg

/-- The largest priority value among the frames not in transmission bounds each of them. -/
theorem priority_le_worst (hg : g ∈ q) (hidle : g.sending = false) : priority g.body ≤ worstPriority q :=
  priority_le_foldl_worseOf hg hidle

theorem worst_le {n : Nat} (hq : ∀ x ∈ q, x.sending = false → priority x.body ≤ n) : worstPriority q ≤ n :=
  foldl_worseOf_le (Nat.zero_le n) hq

/-- A largest priority value above 0 is that of a frame not in transmission. -/
theorem exists_worst (hpos : 0 < worstPriority q) :
    ∃ x ∈ q, (!x.sending && priority x.body == worstPriority q) = true := by
  by_contra hnone
  have hbelow : worstPriority q ≤ worstPriority q - 1 := worst_le fun x hx hidle => by
    have hle := priority_le_worst hx hidle
    have hne : priority x.body ≠ worstPriority q := fun heq => hnone ⟨x, hx, by simp [hidle, heq]⟩
    omega
  omega

theorem eraseLast_sublist (t : TxFrame → Bool) (q : List TxFrame) : (eraseLast t q).Sublist q := by
  have h := (List.eraseP_sublist (p := t) (l := q.reverse)).reverse
  rwa [List.reverse_reverse] at h

theorem eraseLast_length {t : TxFrame → Bool} (h : ∃ x ∈ q, t x = true) : (eraseLast t q).length = q.length - 1 := by
  obtain ⟨x, hx, ht⟩ := h
  unfold eraseLast
  rw [List.length_reverse, List.length_eraseP_of_mem (List.mem_reverse.2 hx) ht, List.length_reverse]

/-- The last element that satisfies the test leaves. -/
theorem eraseLast_append {t : TxFrame → Bool} {a b : List TxFrame} (hg : t g = true) (hb : ∀ x ∈ b, t x = false) :
    eraseLast t (a ++ g :: b) = a ++ b := by
  unfold eraseLast
  have hskip : ∀ x ∈ b.reverse, ¬t x = true := fun x hx => by simp [hb x (List.mem_reverse.1 hx)]
  rw [List.reverse_append, List.reverse_cons, List.append_assoc, List.eraseP_append_right _ hskip, List.singleton_append,
    List.eraseP_cons_of_pos hg, List.reverse_append, List.reverse_reverse, List.reverse_reverse]

/-! ## The operations on the queue -/

/-- A frame not in transmission joins: the order and the limits stay (R20, R22). -/
theorem ok_joinQueue (hsending : f.sending = false) {p : Part} (hp : TransmitQueueOk p.port.queue) :
    TransmitQueueOk (joinQueue f p).port.queue := by
  unfold joinQueue
  cases hfind : p.port.queue.find? (replaces f) with
  | some g =>
    obtain ⟨hg, a, b, hqueue, hbefore⟩ := List.find?_eq_some_iff_append.1 hfind
    have herase : p.port.queue.eraseP (replaces f) = a ++ b := by
      rw [hqueue, List.eraseP_append_right _ fun x hx => by simpa using hbefore x hx, List.eraseP_cons_of_pos hg]
    have hjoined : TransmitQueueOk (place f (p.port.queue.eraseP (replaces f))) := by
      rw [herase]; exact ok_place_of_match hsending hg (hqueue ▸ hp)
    dsimp only
    split <;> split <;> simpa
  | none =>
    have hnone : ∀ x ∈ p.port.queue, replaces f x = false := fun x hx => by simpa using List.find?_eq_none.1 hfind x hx
    dsimp only
    split
    next hroom => exact ok_place_of_no_match hsending hroom hnone hp
    next hfull =>
      split
      next hworse =>
        have hsub := eraseLast_sublist (fun g => !g.sending && priority g.body == worstPriority p.port.queue) p.port.queue
        have hlength := eraseLast_length (exists_worst (q := p.port.queue) (by simpa using Nat.lt_of_le_of_lt (Nat.zero_le _) hworse))
        refine ok_place_of_no_match hsending ?_ (fun x hx => hnone x (hsub.subset (by simpa using hx))) (ok_of_sublist (by simpa using hsub) hp)
        have := hp.1
        simp only [raise_port, count_port]
        omega
      · simpa

/-- With no frame in transmission, the head begins its own (R17). -/
theorem ok_startHead (hidle : ∀ x ∈ q, x.sending = false) (hq : TransmitQueueOk q) : TransmitQueueOk (startHead q) := by
  cases q with
  | nil => exact hq
  | cons x q =>
    refine ok_of_bodies (q := x :: q) rfl ?_ hq
    have hnone : q.filter TxFrame.sending = [] :=
      List.filter_eq_nil_iff.2 fun y hy => by simp [hidle y (List.mem_cons_of_mem x hy)]
    simp [startHead, hnone]

theorem ok_tryBegin {p : Part} (hp : TransmitQueueOk p.port.queue) : TransmitQueueOk (tryBegin p).port.queue := by
  unfold tryBegin
  split
  next hbegin =>
    simp only [Bool.and_eq_true, Bool.not_eq_true'] at hbegin
    refine ok_startHead (fun x hx => ?_) hp
    simpa using List.any_eq_false.1 hbegin.1.1.2 x hx
  · exact hp

/-- A queue mapped by a function that keeps what frames say and brings none into transmission. -/
theorem ok_map {u : TxFrame → TxFrame} (hbody : ∀ x, (u x).body = x.body) (hsent : ∀ x, (u x).sending = true → x.sending = true)
    (hq : TransmitQueueOk q) : TransmitQueueOk (q.map u) := by
  have hbodies : (q.map u).map TxFrame.body = q.map TxFrame.body := by
    rw [List.map_map]; exact List.map_congr_left fun x _ => hbody x
  refine ok_of_bodies hbodies (Nat.le_trans ?_ hq.2.2.1) hq
  rw [List.filter_map, List.length_map]
  exact (List.monotone_filter_right q hsent).length_le

theorem updateFirst_map {α : Type} {t : TxFrame → Bool} {u : TxFrame → TxFrame} {get : TxFrame → α} (hget : ∀ x, get (u x) = get x)
    (q : List TxFrame) : (updateFirst t u q).map get = q.map get := by
  induction q with
  | nil => rfl
  | cons x q ih => unfold updateFirst; split <;> simp [hget, ih]

/-- The first element that satisfies the test is the one updated. -/
theorem updateFirst_append {t : TxFrame → Bool} {u : TxFrame → TxFrame} {a b : List TxFrame} (ha : ∀ x ∈ a, t x = false)
    (hg : t g = true) : updateFirst t u (a ++ g :: b) = a ++ u g :: b := by
  induction a with
  | nil => simp [updateFirst, hg]
  | cons x a ih =>
    simp only [List.cons_append, updateFirst, ha x List.mem_cons_self, Bool.false_eq_true, if_false]
    rw [ih fun y hy => ha y (List.mem_cons_of_mem x hy)]

theorem ageFrame_body (x : TxFrame) : (ageFrame x).body = x.body := by unfold ageFrame; split <;> rfl

theorem ageFrame_sending (x : TxFrame) : (ageFrame x).sending = x.sending := by unfold ageFrame; split <;> rfl

theorem countTimes_port (e : Event) (k : Nat) (p : Part) : (countTimes e k p).port = p.port := (countTimes_leaves p e k).1

theorem ok_ageQueue {p : Part} (hp : TransmitQueueOk p.port.queue) : TransmitQueueOk (ageQueue p).port.queue := by
  unfold ageQueue
  rw [countTimes_port]
  exact ok_of_sublist List.filter_sublist (ok_map ageFrame_body (fun x hx => by rwa [ageFrame_sending] at hx) hp)

theorem ok_endUnsent {p : Part} (hp : TransmitQueueOk p.port.queue) : TransmitQueueOk (endUnsent p).port.queue := by
  unfold endUnsent
  dsimp only
  split
  · exact hp
  · split
    · exact ok_of_sublist List.eraseP_sublist hp
    · exact ok_map (fun _ => rfl) (fun _ hx => Bool.noConfusion hx) hp

theorem ok_endSent {p : Part} (hp : TransmitQueueOk p.port.queue) : TransmitQueueOk (endSent p).port.queue := by
  unfold endSent
  split
  · exact hp
  · exact ok_of_sublist List.eraseP_sublist hp

theorem ok_expireReply {p : Part} (hp : TransmitQueueOk p.port.queue) : TransmitQueueOk (expireReply p).port.queue := by
  unfold expireReply
  split
  · exact hp
  · split
    · have hkept {α : Type} {get : TxFrame → α} (hget : ∀ x : TxFrame, get { x with lapsed := true } = get x) :=
        updateFirst_map (t := freshReply) hget p.port.queue
      refine ok_of_bodies (hkept fun _ => rfl) ?_ hp
      exact (sending_length_of_marks (hkept fun _ => rfl)).trans_le hp.2.2.1
    · exact ok_of_sublist List.eraseP_sublist hp

end Sys2Proof.Machine.TransmitQueue
end

section
/-! The draw table as a list (R103, R104): the greatest age, and which changes keep the table's limits. -/

namespace Sys2Proof.Machine.DrawTable

variable {ds : List Draw}

theorem foldl_age_le {m n : Nat} (hm : m ≤ n) (hds : ∀ x ∈ ds, x.age ≤ n) : ds.foldl (fun m d => max m d.age) m ≤ n := by
  induction ds generalizing m with
  | nil => exact hm
  | cons x ds ih =>
    exact ih (Nat.max_le.2 ⟨hm, hds x List.mem_cons_self⟩) fun y hy => hds y (List.mem_cons_of_mem x hy)

theorem le_foldl_age {m : Nat} : m ≤ ds.foldl (fun m d => max m d.age) m := by
  induction ds generalizing m with
  | nil => exact Nat.le_refl m
  | cons x ds ih => exact Nat.le_trans (Nat.le_max_left m x.age) ih

theorem age_le_foldl {m : Nat} {x : Draw} (hx : x ∈ ds) : x.age ≤ ds.foldl (fun m d => max m d.age) m := by
  induction ds generalizing m with
  | nil => exact absurd hx List.not_mem_nil
  | cons y ds ih =>
    rcases List.mem_cons.1 hx with rfl | hx
    · exact Nat.le_trans (Nat.le_max_right m _) le_foldl_age
    · exact ih hx

theorem age_le_greatest {x : Draw} (hx : x ∈ ds) : x.age ≤ greatestAge ds := age_le_foldl hx

theorem greatest_le {n : Nat} (hds : ∀ x ∈ ds, x.age ≤ n) : greatestAge ds ≤ n := foldl_age_le (Nat.zero_le n) hds

/-- A greatest age above 0 is that of an entry. -/
theorem exists_greatest (hpos : greatestAge ds ≠ 0) : ∃ x ∈ ds, (x.age == greatestAge ds) = true := by
  by_contra hnone
  have hbelow : greatestAge ds ≤ greatestAge ds - 1 := greatest_le fun x hx => by
    have hle := age_le_greatest hx
    have hne : x.age ≠ greatestAge ds := fun heq => hnone ⟨x, hx, by simp [heq]⟩
    omega
  omega

/-! ## Changes that keep the limits -/

theorem ok_of_sublist {es : List Draw} (hsub : es.Sublist ds) (hds : DrawTableOk ds) : DrawTableOk es := by
  obtain ⟨hlength, hstations, hages⟩ := hds
  exact ⟨hsub.length_le.trans hlength, hstations.sublist (hsub.map _), fun x hx => hages x (hsub.subset hx)⟩

/-- A new entry of a station not in the table joins where there is room. -/
theorem ok_append {d : Draw} (hroom : ds.length < 16) (hnew : ∀ x ∈ ds, x.station ≠ d.station) (hage : d.age = 0)
    (hds : DrawTableOk ds) : DrawTableOk (ds ++ [d]) := by
  obtain ⟨-, hstations, hages⟩ := hds
  refine ⟨by simp only [List.length_append, List.length_singleton]; omega, ?_, fun x hx => ?_⟩
  · rw [List.map_append, List.map_singleton]
    refine hstations.append (List.nodup_singleton _) fun t ht hd => ?_
    obtain ⟨x, hx, rfl⟩ := List.mem_map.1 ht
    exact hnew x hx (List.mem_singleton.1 hd)
  · rcases List.mem_append.1 hx with hx | hx
    · exact hages x hx
    · rw [List.mem_singleton.1 hx, hage]; exact Nat.zero_le 2

/-- A notice of own feed keeps the table's limits (R103). -/
theorem ok_enterDraw {d : Draw} (hage : d.age = 0) (hds : DrawTableOk ds) : DrawTableOk (enterDraw d ds) := by
  unfold enterDraw
  split
  next hknown =>
    obtain ⟨x, hx, hstation⟩ := List.any_eq_true.1 hknown
    refine ok_append ?_ (fun y hy => ?_) hage (ok_of_sublist List.filter_sublist hds)
    · have hless : (ds.filter fun y => !(y.station == d.station)).length < ds.length :=
        List.length_filter_lt_length_iff_exists.2 ⟨x, hx, by simp [hstation]⟩
      exact Nat.lt_of_lt_of_le hless hds.1
    · simpa using (List.mem_filter.1 hy).2
  next hnew =>
    have hother : ∀ x ∈ ds, x.station ≠ d.station := by simpa using hnew
    split
    next hroom => exact ok_append hroom hother hage hds
    next =>
      split
      · exact hds
      next hpos =>
        obtain ⟨x, hx, hmatch⟩ := exists_greatest hpos
        have hsub := List.eraseP_sublist (p := fun x : Draw => x.age == greatestAge ds) (l := ds)
        refine ok_append ?_ (fun y hy => hother y (hsub.subset hy)) hage (ok_of_sublist hsub hds)
        have hlength := List.length_eraseP_of_mem (p := fun x : Draw => x.age == greatestAge ds) hx hmatch
        have hpositive := List.length_pos_of_mem hx
        have hlimit := hds.1
        omega

/-- Ageing leaves entries of age 1 and 2 (R104). -/
theorem ok_ageDraws (hds : DrawTableOk ds) : DrawTableOk (ageDraws ds) := by
  obtain ⟨hlength, hstations, -⟩ := hds
  have hsub : ((ageDraws ds).map Draw.station).Sublist (ds.map Draw.station) := by
    have hmap := (List.filter_sublist (p := fun d : Draw => decide (d.age < 3))
      (l := ds.map fun d => { d with age := d.age + 1 })).map Draw.station
    rwa [List.map_map] at hmap
  refine ⟨?_, hstations.sublist hsub, fun x hx => ?_⟩
  · simpa only [List.length_map] using hsub.length_le.trans (by simpa only [List.length_map] using hlength)
  · have hyoung : x.age < 3 := by simpa using (List.mem_filter.1 hx).2
    omega

end Sys2Proof.Machine.DrawTable
end

section
/-! What a command does, as one function of the part it finds: `exec` said once for every command, so that a rule over every command is a
case split over `effect`. -/

namespace Sys2Proof.Machine.Effects

/-- The command is an event that itself falls due, or POWER-ON: nothing is taken before it (log 2). -/
def takenAtOnce (c : Instr) : Bool :=
  match c with
  | .powerOn | .lagEnd _ | .dwellLimit | .dryLiftCommand _ | .dryDwellEnd | .refCheckEnd | .regulationPeriodEnd
  | .budgetPeriodEnd | .heaterOnTimeEnd _ | .idleTimeout => true
  | _ => false

/-- The part as the command finds it. -/
def found (c : Instr) (p : Part) : Part :=
  match takenAtOnce c with
  | true => p
  | false => ready p

/-- The handling of a request to this station that has been heard (R188). -/
def asked (c : Instr) : Option (Header × (Part → Part)) :=
  match c with
  | .unknownRequest code h args => some (h, takeRequest code h args)
  | .status h args => some (h, requestStatus h args)
  | .readCountersA h args => some (h, requestCountersA h args)
  | .readCountersB h args => some (h, requestCountersB h args)
  | .setCounter h args => some (h, requestSetCounter h args)
  | .freeze h args => some (h, requestFreeze h args)
  | .thaw h args => some (h, requestThaw h args)
  | .clearCounters h args => some (h, requestClearCounters h args)
  | .readLogA h args => some (h, requestLogA h args)
  | .readLogB h args => some (h, requestLogB h args)
  | .readRow h args => some (h, requestRow h args)
  | .readConfig h args => some (h, requestConfig h args)
  | .clearAlarms h args => some (h, requestClearAlarms h args)
  | .clearFault h args => some (h, requestClearFault h args)
  | .hold h args => some (h, requestHold h args)
  | .release h args => some (h, requestRelease h args)
  | .resync h args => some (h, requestResync h args)
  | .refCheck h args => some (h, requestRefCheck h args)
  | .dryStart h args => some (h, requestDryStart h args)
  | .dryStop h args => some (h, requestDryStop h args)
  | .restart h args => some (h, requestRestart h args)
  | _ => none

/-- The handling of a frame of another kind that has been heard: its kind code and payload (R25). -/
def framed (c : Instr) : Option (Header × Nat × List Byte) :=
  match c with
  | .rowVerdict h payload => some (h, 4, payload)
  | .sealReport h payload => some (h, 6, payload)
  | .voidNotice h payload => some (h, 7, payload)
  | .drawNotice h payload => some (h, 10, payload)
  | .lineStateStop h payload => some (h, 2, payload)
  | .lineStateRun h payload => some (h, 2, payload)
  | .serviceReply h payload => some (h, 21, payload)
  | .unknownKind kind h payload => some (h, kind.toNat, payload)
  | .serviceRequestNotAddressed h payload => some (h, 20, payload)
  | _ => none

/-- What a command that is no frame does to the part it finds. -/
def localEffect (c : Instr) : Part → Part :=
  match c with
  | .powerOn => powerPart
  | .resetInput => holdReset
  | .resetRelease => releaseReset
  | .crystalRunning => crystalRuns
  | .crystalWaitExpiry => crystalFails
  | .configBlockRead m => loadBlock m
  | .startOpenTimeout => timeOutStart
  | .strapChange x => setStraps x
  | .quietDeclaration => declareQuiet
  | .frameSent => endSent
  | .arbLost bit => loseArbitration bit
  | .clash bit => meetClash bit
  | .serviceReplyExpiry => expireReply
  | .frameBadCheck bits => arrivalOfBits bits
  | .ownStationFrame => takeOwnFrame
  | .indexEdge now => takeEdge now
  | .settleEnd => endSettle
  | .sampleTick conv => takeTick conv
  | .openRecovery channel conv => recover channel conv
  | .lagEnd lane => endLag lane
  | .dwellLimit => endAtLimit
  | .dryLiftCommand lane => dryLift lane
  | .dryDwellEnd => endDryDwell
  | .closeTimeout => timeOutClose
  | .openTimeout => timeOutOpen
  | .openSensorActive => setOpenSensor true
  | .openSensorInactive => setOpenSensor false
  | .closedSensorChange active => setClosedSensor active
  | .stopInputActivation => stopInputOn
  | .stopInputRelease => stopInputOff
  | .dryPeriodExpiry => expireDryPeriod
  | .refCheckEnd => endDueCheck
  | .regulationPeriodEnd => endDuePeriod
  | .budgetPeriodEnd => endDueBudget
  | .heaterOnTimeEnd lane => endHeater lane
  | .idleTimeout => endIdle
  | .startMarkRefused mark => takeMark mark
  | _ => id

/-- What a command does to the part it finds. -/
def effect (c : Instr) : Part → Part :=
  match asked c, framed c with
  | some (h, handle), _ => arrival h (addressed handle)
  | none, some (h, kind, payload) => arrival h (dispatch kind h payload)
  | none, none => localEffect c

section

variable {c : Instr}

theorem effect_of_asked {x : Header × (Part → Part)} (hasked : asked c = some x) :
    effect c = arrival x.1 (addressed x.2) := by unfold effect; rw [hasked]

theorem effect_of_framed {x : Header × Nat × List Byte} (hasked : asked c = none) (hframed : framed c = some x) :
    effect c = arrival x.1 (dispatch x.2.1 x.1 x.2.2) := by unfold effect; rw [hasked, hframed]

theorem effect_of_local (hasked : asked c = none) (hframed : framed c = none) : effect c = localEffect c := by
  unfold effect; rw [hasked, hframed]

end

/-- Every command: the part it finds, its effect, and the end of the event. -/
theorem exec_eq (c : Instr) (s : State) :
    exec c s = .next { s with part := finish (effect c (found c s.part)) } := by
  cases c <;> rfl

/-- What a command leaves is the end of the event that its effect begins. -/
theorem eq_finish_of_takes {c : Instr} {s : State} {t : Part} (ht : Takes c s t) :
    t = finish (effect c (found c s.part)) := by
  have hnext : (Host.Outcome.next { s with part := t } : Host.Outcome State Fault Refusal) = .next _ :=
    ht.symm.trans (exec_eq c s)
  injection hnext with hstate
  exact congrArg State.part hstate

/-- A step idles on an empty queue, or ends the event of the command at the front (log 1). -/
theorem step_cases {s t : State} (hstep : step s = .next t) :
    t = s ∨ ∃ c, t.part = finish (effect c (found c s.part)) := by
  unfold step at hstep
  split at hstep
  · injection hstep with hst
    exact .inl hst.symm
  next c rest hpending =>
    rw [exec_eq] at hstep
    injection hstep with hst
    exact .inr ⟨c, hst ▸ rfl⟩

end Sys2Proof.Machine.Effects
end

section
/-! The step invariants (R34, R17 to R22, R85, R103, R172, R183, R112): one walk over the operations shows that each keeps all of
them, and O4 to O7 are read off it. -/

namespace Sys2Proof.Machine.StepInvariants

open TransmitQueue

/-- Each of the step invariants that `p` meets is met by `q`. -/
structure Keeps (p q : Part) : Prop where
  travel : TravelQueueOk p → TravelQueueOk q
  transmit : TransmitQueueOk p.port.queue → TransmitQueueOk q.port.queue
  readings : ReadingsOk p.sampling → ReadingsOk q.sampling
  draws : DrawTableOk p.regulator.draws → DrawTableOk q.regulator.draws
  counters : CountersOk p.monitor → CountersOk q.monitor
  counts : CountsOk p → CountsOk q
  log : LogOk p.log → LogOk q.log
  contacts : ContactsOk p → ContactsOk q

theorem Keeps.refl (p : Part) : Keeps p p := ⟨id, id, id, id, id, id, id, id⟩

theorem Keeps.trans {p q r : Part} (h : Keeps p q) (k : Keeps q r) : Keeps p r :=
  ⟨k.travel ∘ h.travel, k.transmit ∘ h.transmit, k.readings ∘ h.readings, k.draws ∘ h.draws, k.counters ∘ h.counters,
    k.counts ∘ h.counts, k.log ∘ h.log, k.contacts ∘ h.contacts⟩

/-! In every lemma below `q` is what `p` has become so far, and the operation is done on `q`. -/

variable {p q : Part} (h : Keeps p q)

/-! ## Flags and counting -/

section
include h

theorem raise_keeps (a : Alarm) : Keeps p (raise a q) := h.trans ⟨id, id, id, id, id, id, id, id⟩

theorem raiseIf_keeps (b : Bool) (a : Alarm) : Keeps p (raiseIf b a q) := by
  unfold raiseIf; split
  · exact raise_keeps h a
  · exact h

end

theorem addEach_values {f : Control → Nat} {ks : List Control} {cs : List Counter}
    (hcs : ∀ c ∈ cs, c.value < counterModulus) : ∀ c ∈ addEach f ks cs, c.value < counterModulus := by
  induction ks generalizing cs with
  | nil => exact hcs
  | cons k ks ih =>
    cases cs with
    | nil => exact hcs
    | cons c cs =>
      obtain ⟨hc, hrest⟩ := List.forall_mem_cons.1 hcs
      exact List.forall_mem_cons.2 ⟨addTo_value_lt c (f k) hc, ih hrest⟩

/-- Counting leaves seven counters below 2^40 (R172). -/
theorem countersOk_addAll (f : Control → Nat) {m : Monitor} (hm : CountersOk m) : CountersOk (addAll f m) := by
  unfold addAll; split
  · exact hm
  · exact ⟨(addEach_length f _ _).trans hm.1, addEach_values hm.2⟩

theorem countersOk_foldl_occurLane (e : Event) (lanes : List (Nat × Nat)) {m : Monitor} (hm : CountersOk m) :
    CountersOk (lanes.foldl (fun m x => occurLane e x.1 x.2 m) m) := by
  induction lanes generalizing m with
  | nil => exact hm
  | cons x lanes ih => exact ih (countersOk_addAll _ hm)

theorem countersOk_countTick {m : Monitor} (hm : CountersOk m) : CountersOk (countTick m) := by
  unfold countTick; split
  · exact hm
  · obtain ⟨hlength, hvalues⟩ := hm
    refine ⟨(updateAt_length _ _ _).trans hlength, fun c hc => ?_⟩
    obtain ⟨i, hi⟩ := List.mem_iff_getElem?.1 hc
    rw [updateAt_getElem?] at hi
    split at hi
    · obtain ⟨x, hx, rfl⟩ := Option.map_eq_some_iff.1 hi
      exact addTo_value_lt x 1 (hvalues x (List.mem_of_getElem? hx))
    · exact hvalues c (List.mem_of_getElem? hi)

theorem countersOk_takeConditions (f : Control → Option Bool) {m : Monitor} (hm : CountersOk m) :
    CountersOk (takeConditions f m) := countersOk_addAll (fun t => conditionAmount (f t) t) hm

section
include h

/-- The monitor takes another value that keeps its counters in their range. -/
theorem monitor_keeps {m : Monitor} (hm : CountersOk q.monitor → CountersOk m) : Keeps p { q with monitor := m } :=
  h.trans ⟨id, id, id, id, hm, id, id, id⟩

theorem count_keeps (e : Event) : Keeps p (count e q) := monitor_keeps h (countersOk_addAll _)

theorem countAmount_keeps (e : Event) (n : Nat) : Keeps p (countAmount e n q) := monitor_keeps h (countersOk_addAll _)

theorem countLanes_keeps (e : Event) (lanes : List (Nat × Nat)) : Keeps p (countLanes e lanes q) :=
  monitor_keeps h (countersOk_foldl_occurLane e lanes)

theorem countTimes_keeps (e : Event) (k : Nat) : Keeps p (countTimes e k q) := by
  induction k generalizing q with
  | zero => exact h
  | succ k ih => exact ih (count_keeps h e)

end

/-! ## The line port -/

section
include h

/-- The transmit queue takes another value that keeps its order and limits. -/
theorem withQueue_keeps {l : List TxFrame} (hl : TransmitQueueOk q.port.queue → TransmitQueueOk l) : Keeps p (withQueue l q) :=
  h.trans ⟨id, hl, id, id, id, id, id, id⟩

end

/-- What an operation of the line port has to show: the queue and the counters keep, the clash count is left, and so is every
block but the port, the monitor and the alarm word. -/
theorem keeps_of_port {q r : Part} (hqueue : TransmitQueueOk q.port.queue → TransmitQueueOk r.port.queue)
    (hcounters : CountersOk q.monitor → CountersOk r.monitor) (hclash : r.port.clashCount = q.port.clashCount)
    (hrest : r.tracker = q.tracker ∧ r.sampling = q.sampling ∧ r.regulator = q.regulator ∧ r.sequencer = q.sequencer ∧
      r.dose = q.dose ∧ r.log = q.log ∧ r.control.fault = q.control.fault) : Keeps q r := by
  obtain ⟨htracker, hsampling, hregulator, hsequencer, hdose, hlog, hfault⟩ := hrest
  refine ⟨?_, hqueue, ?_, ?_, hcounters, ?_, ?_, ?_⟩ <;>
    simp only [TravelQueueOk, CountsOk, ContactsOk, htracker, hsampling, hregulator, hsequencer, hdose, hlog, hfault, hclash] <;>
    exact id

theorem joinQueue_counters {f : TxFrame} {q : Part} (hm : CountersOk q.monitor) : CountersOk (joinQueue f q).monitor := by
  have hcount := countersOk_addAll (fun t => if t.enable && t.select == eventCode .txDropped then added t 1 else 0) hm
  unfold joinQueue
  dsimp only
  repeat' split
  all_goals first | exact hm | exact hcount

theorem joinQueue_clashCount (f : TxFrame) (q : Part) : (joinQueue f q).port.clashCount = q.port.clashCount := by
  unfold joinQueue
  dsimp only
  repeat' split
  all_goals simp

theorem countTimes_counters {e : Event} {k : Nat} {q : Part} (hm : CountersOk q.monitor) :
    CountersOk (countTimes e k q).monitor := (countTimes_keeps (.refl q) e k).counters hm

section
include h

theorem joinQueue_keeps {f : TxFrame} (hf : f.sending = false) : Keeps p (joinQueue f q) :=
  h.trans (keeps_of_port (ok_joinQueue hf) joinQueue_counters (joinQueue_clashCount f q) (by simp))

theorem tryBegin_keeps : Keeps p (tryBegin q) := by
  refine h.trans (keeps_of_port ok_tryBegin ?_ ?_ (by simp))
  · rw [tryBegin_monitor]; exact id
  · unfold tryBegin; split <;> rfl

theorem join_keeps {f : TxFrame} (hf : f.sending = false) : Keeps p (join f q) := tryBegin_keeps (joinQueue_keeps h hf)

theorem send_keeps (b : FrameBody) : Keeps p (send b q) := join_keeps h rfl

theorem ageQueue_keeps : Keeps p (ageQueue q) := by
  refine h.trans (keeps_of_port ok_ageQueue (fun hm => ?_) ?_ (by simp)) <;> unfold ageQueue
  · exact countTimes_counters (q := withQueue _ q) hm
  · rw [countTimes_port]; rfl

theorem endUnsent_keeps : Keeps p (endUnsent q) := by
  refine h.trans (keeps_of_port ok_endUnsent ?_ ?_ (by simp)) <;> unfold endUnsent <;> dsimp only <;> (repeat' split)
  all_goals first | exact id | exact countersOk_addAll _ | rfl

theorem endSent_keeps : Keeps p (endSent q) := by
  refine h.trans (keeps_of_port ok_endSent ?_ ?_ (by simp)) <;> unfold endSent <;> split
  all_goals first | exact id | exact countersOk_addAll _ | rfl

theorem expireReply_keeps : Keeps p (expireReply q) := by
  refine h.trans (keeps_of_port ok_expireReply ?_ ?_ (by simp)) <;> unfold expireReply <;> (repeat' split)
  all_goals first | exact id | exact countersOk_addAll _ | rfl

/-- The port's marks are not what the invariants speak of. -/
theorem portMarks_keeps (quiet waiting taking : Bool) :
    Keeps p { q with port := { q.port with quiet := quiet, waitQuiet := waiting, receiving := taking } } :=
  h.trans ⟨id, id, id, id, id, id, id, id⟩

end

/-! ## The dwell log and the line-stop flag -/

theorem addEntry_logOk {e : LogEntry} {q : Part} (hq : LogOk q.log) : LogOk (addEntry e q).log := by
  unfold LogOk at hq ⊢
  unfold addEntry; split
  · simp only [List.length_append, List.length_singleton]; omega
  · simp only [raise_log]
    split
    · simp only [List.length_append, List.length_drop, List.length_singleton]; omega
    · exact hq

theorem addEntry_overflow {e : LogEntry} {q : Part} (hq : q.log.overflow ≤ 65535) : (addEntry e q).log.overflow ≤ 65535 := by
  unfold addEntry; split
  · exact hq
  · exact saturate16_le _

section
include h

theorem addEntry_keeps (e : LogEntry) : Keeps p (addEntry e q) := by
  refine h.trans ⟨?_, ?_, ?_, ?_, ?_, fun hc => ?_, addEntry_logOk, ?_⟩
  case refine_6 =>
    obtain ⟨hclash, hquiet, hclose, hlost, hunder, hfurther, hoverflow, hacc⟩ := hc
    simp only [CountsOk, addEntry_port, addEntry_tracker, addEntry_sequencer, addEntry_dose, addEntry_fault]
    exact ⟨hclash, hquiet, hclose, hlost, hunder, hfurther, addEntry_overflow hoverflow, hacc⟩
  all_goals
    simp only [TravelQueueOk, ContactsOk, addEntry_port, addEntry_tracker, addEntry_sequencer, addEntry_dose, addEntry_sampling,
      addEntry_regulator, addEntry_monitor]
    exact id

theorem clearChatter_keeps : Keeps p (clearChatter q) := h.trans ⟨id, id, id, id, id, id, id, id⟩

theorem logCycle_keeps (tag : Tag) (dry aborted forced : Bool) : Keeps p (logCycle tag dry aborted forced q) :=
  addEntry_keeps (clearChatter_keeps h) _

theorem setLineStop_keeps : Keeps p (setLineStop q) := by
  refine (monitor_keeps h (m := (setLineStop q).monitor) ?_).trans ⟨id, id, id, id, id, id, id, id⟩
  unfold setLineStop; dsimp only; split <;> exact id

theorem clearLineStop_keeps : Keeps p (clearLineStop q) := by
  refine (monitor_keeps h (m := (clearLineStop q).monitor) ?_).trans ⟨id, id, id, id, id, id, id, id⟩
  unfold clearLineStop; dsimp only; split <;> exact id

end

/-! ## Row records -/

/-- Records of the same tags are a travel queue as good (R34). -/
theorem travel_of_tags {q r : Part} (hh : r.tracker.h = q.tracker.h)
    (htags : r.tracker.records.map RowRecord.tag = q.tracker.records.map RowRecord.tag) (hq : TravelQueueOk q) :
    TravelQueueOk r := by
  unfold TravelQueueOk at hq ⊢
  rw [hh]
  split at hq
  · exact htags.trans hq
  · rw [hq] at htags; exact List.map_eq_nil_iff.1 htags

section
include h

theorem withRecords_keeps {rs : List RowRecord} (htags : rs.map RowRecord.tag = q.tracker.records.map RowRecord.tag) :
    Keeps p (withRecords rs q) := h.trans ⟨travel_of_tags rfl htags, id, id, id, id, id, id, id⟩

theorem updateRecord_keeps (t : Tag) {f : RowRecord → RowRecord} (hf : ∀ r, (f r).tag = r.tag) :
    Keeps p (withRecords (updateRecord t f q.tracker.records) q) :=
  withRecords_keeps h (tags_of_map (fun r => by split <;> simp [hf]) _)

theorem updateHead_keeps {f : RowRecord → RowRecord} (hf : ∀ r, r ∈ q.tracker.records.head? → (f r).tag = r.tag) :
    Keeps p (updateHead f q) := by
  refine withRecords_keeps h ?_
  cases hrecords : q.tracker.records with
  | nil => rfl
  | cons r rs => simp [hf r (by simp [hrecords])]

theorem fileStatement_keeps (t : Tag) {apply : Part → Part} (happly : Keeps p (apply q)) :
    Keeps p (fileStatement t apply q) := by
  unfold fileStatement; split
  · exact h
  · exact happly
  · exact count_keeps h _
  · exact count_keeps h _

theorem applyVerdict_keeps (role : Role) (v : RowVerdict) : Keeps p (applyVerdict role v q) := by
  unfold applyVerdict; split
  · exact h
  · exact countTimes_keeps (countTimes_keeps (updateRecord_keeps h v.tag (by exact fun _ => rfl)) _ _) _ _

theorem takeRowVerdict_keeps (hd : Header) (payload : List Byte) : Keeps p (takeRowVerdict hd payload q) := by
  unfold takeRowVerdict; split
  · exact count_keeps h _
  · split
    · exact fileStatement_keeps h _ (applyVerdict_keeps h _ _)
    · exact h

theorem applyReport_keeps (x : ReceivedReport) : Keeps p (applyReport x q) := by
  unfold applyReport; split
  · exact h
  · exact countTimes_keeps (countTimes_keeps (updateRecord_keeps h x.tag (by exact fun _ => rfl)) _ _) _ _

theorem byStage_keeps (j : Nat) {upstream : Part → Part} (hup : Keeps p (upstream q)) : Keeps p (byStage j upstream q) := by
  unfold byStage; split
  · exact h
  · split
    · exact hup
    · split
      · exact raise_keeps h _
      · exact h

theorem takeSealReport_keeps (hd : Header) (payload : List Byte) : Keeps p (takeSealReport hd payload q) := by
  unfold takeSealReport; split
  · split
    · exact count_keeps h _
    · exact byStage_keeps h _ (fileStatement_keeps h _ (applyReport_keeps h _))
  · exact count_keeps h _

theorem applyVoid_keeps (v : ReceivedVoid) : Keeps p (applyVoid v q) := by
  unfold applyVoid; split
  · exact h
  · split
    · exact count_keeps h _
    · split
      · exact withRecords_keeps h (tags_of_map (fun r => by split <;> rfl) _)
      · split <;> exact count_keeps h _

theorem takeVoidNotice_keeps (hd : Header) (payload : List Byte) : Keeps p (takeVoidNotice hd payload q) := by
  unfold takeVoidNotice; split
  · split
    · exact count_keeps h _
    · exact byStage_keeps h _ (applyVoid_keeps h _)
  · exact count_keeps h _

theorem freezeHead_keeps : Keeps p (freezeHead q) := updateHead_keeps h fun _ _ => rfl

end

/-! ## The conclusion of a row -/

section
include h

theorem countRow_keeps (judged : Bool) (lanes : List LaneEntry) : Keeps p (countRow judged lanes q) := by
  iterate 6 refine countLanes_keeps ?_ _ _
  exact countLanes_keeps h _ _

theorem underCount_keeps {n : Nat} (hn : n ≤ 3) : Keeps p { q with dose := { q.dose with underCount := n } } := by
  refine h.trans ⟨id, id, id, id, id, fun hc => ?_, id, id⟩
  obtain ⟨hclash, hquiet, hclose, hlost, -, hfurther, hoverflow, hacc⟩ := hc
  exact ⟨hclash, hquiet, hclose, hlost, hn, hfurther, hoverflow, hacc⟩

theorem countUnder_keeps (lanes : List LaneEntry) : Keeps p (countUnder lanes q) := by
  unfold countUnder; split
  · refine raiseIf_keeps (underCount_keeps h ?_) _ _
    split <;> omega
  · exact h

theorem concludeWith_keeps (pt : ConclusionPoint) {r : RowRecord} (hr : q.tracker.records.head? = some r) :
    Keeps p (concludeWith pt r q) := by
  have hreported := send_keeps (updateHead_keeps h (f := fun _ => concludeRecord pt q r) fun x hx => by
    show r.tag = x.tag; exact congrArg RowRecord.tag (Option.some.inj (hr.symm.trans hx)))
    (.sealReport (sealReportOf pt q (concludeRecord pt q r)))
  unfold concludeWith
  dsimp only
  split
  · exact countUnder_keeps (countRow_keeps (logCycle_keeps hreported _ _ _ _) _ _) _
  · exact countUnder_keeps (countRow_keeps hreported _ _) _

theorem concludeHead_keeps (pt : ConclusionPoint) : Keeps p (concludeHead pt q) := by
  unfold concludeHead; split
  · exact h
  next r hr =>
    split
    · exact h
    · exact concludeWith_keeps h pt hr

end

/-! ## The index tracker -/

/-- The window moves with H (R36). -/
theorem windowTags_succ (h : Tag) : (windowTags h).drop 1 ++ [h + 48] = windowTags (h + 1) := by
  unfold windowTags
  have hplaces : (List.range 48).drop 1 ++ [48] = (List.range 48).map (· + 1) := by decide
  calc ((List.range 48).map fun m => h + BitVec.ofNat 16 m).drop 1 ++ [h + 48]
      = ((List.range 48).drop 1 ++ [48]).map (fun m => h + BitVec.ofNat 16 m) := by rw [List.map_append, List.map_drop]; rfl
    _ = (List.range 48).map (fun m => h + 1 + BitVec.ofNat 16 m) := by
      rw [hplaces, List.map_map]
      exact List.map_congr_left fun m _ => by
        show h + BitVec.ofNat 16 (m + 1) = _
        rw [Nat.add_comm m 1, BitVec.ofNat_add, ← BitVec.add_assoc]; rfl

theorem realignedRecord_tag (c : Configuration) (old : List RowRecord) (t : Tag) : (realignedRecord c old t).tag = t := by
  unfold realignedRecord; split
  next r hr =>
    have htag : (r.tag == t) = true := List.find?_some (p := fun x : RowRecord => x.tag == t) hr
    exact eq_of_beq htag
  · rfl

theorem concludeHead_h (pt : ConclusionPoint) (q : Part) : (concludeHead pt q).tracker.h = q.tracker.h := by
  unfold concludeHead concludeWith
  dsimp only
  split
  · rfl
  · split
    · rfl
    · simp only [countUnder_tracker, countRow_tracker]
      split
      · unfold logCycle; simp [updateHead]
      · simp [updateHead]

section
include h

theorem advanceQueue_keeps {t : Tag} (ht : q.tracker.h = some t) : Keeps p (advanceQueue t q) := by
  refine h.trans ⟨fun hq => ?_, id, id, id, id, id, id, id⟩
  simp only [TravelQueueOk, ht] at hq
  simp only [TravelQueueOk, advanceQueue, List.map_append, List.map_drop, hq, ← windowTags_succ]
  rfl

theorem alignAt_keeps (t : Tag) : Keeps p (alignAt t q) :=
  h.trans ⟨fun _ => freshQueue_tags (cfg q) t, id, id, id, id, id, id, id⟩

theorem moveQueue_keeps (t : Tag) (d : Int) : Keeps p (moveQueue t d q) := by
  refine h.trans ⟨fun _ => ?_, id, id, id, id, id, id, id⟩
  simp only [TravelQueueOk, moveQueue, List.map_map]
  exact (List.map_congr_left fun t _ => realignedRecord_tag _ _ t).trans (List.map_id _)

theorem applyRealignment_keeps (r : Realignment) : Keeps p (applyRealignment r q) := by
  unfold applyRealignment; split
  · exact h
  · exact count_keeps (raise_keeps (send_keeps (moveQueue_keeps h _ _) _) _) _

/-- The tracker's fields beside H, the records and the quiet count are not what the invariants speak of. -/
theorem tracker_keeps {k : Tracker} (hh : k.h = q.tracker.h) (hrecords : k.records = q.tracker.records)
    (hquiet : q.tracker.quietCount ≤ 255 → k.quietCount ≤ 255) : Keeps p { q with tracker := k } := by
  refine h.trans ⟨travel_of_tags hh (congrArg (List.map RowRecord.tag) hrecords), id, id, id, id, fun hc => ?_, id, id⟩
  obtain ⟨hclash, hq, hrest⟩ := hc
  exact ⟨hclash, hquiet hq, hrest⟩

theorem decideRealignment_keeps (r : Realignment) : Keeps p (decideRealignment r q) := by
  have hskew := tracker_keeps h (k := { q.tracker with skew := none }) rfl rfl id
  unfold decideRealignment
  dsimp only
  split
  · exact applyRealignment_keeps hskew r
  · exact applyRealignment_keeps hskew r
  · exact tracker_keeps hskew rfl rfl id

theorem takeSkew_keeps (t : Tag) (d : Int) : Keeps p (takeSkew t d q) := by
  unfold takeSkew
  dsimp only
  have hcounted (s : Skew) := count_keeps (tracker_keeps h (k := { q.tracker with skew := some s }) rfl rfl id) .skewEvidence
  split
  · exact tracker_keeps h rfl rfl id
  · split
    · exact decideRealignment_keeps (hcounted _) _
    · exact hcounted _

theorem flush_keeps (cause : VoidCause) : Keeps p (flush cause q) := by
  have hempty {r : Part} (hr : Keeps p r) : Keeps p
      { r with
        tracker :=
          { r.tracker with
            h := none, records := [], candidate := none, candidateCount := 0, skew := none, pendingRealign := none,
            quietCount := 0 } } := by
    refine hr.trans ⟨fun _ => rfl, id, id, id, id, fun hc => ?_, id, id⟩
    obtain ⟨hclash, -, hrest⟩ := hc
    exact ⟨hclash, Nat.zero_le _, hrest⟩
  unfold flush
  dsimp only
  split
  · exact hempty (send_keeps h _)
  · exact hempty h

end

end Sys2Proof.Machine.StepInvariants
end

section
/-! The walk of the step invariants goes on: the mode controller and the platen sequencer (R112 to R131, R155 to R166). -/

namespace Sys2Proof.Machine.StepInvariants

variable {p q : Part} (h : Keeps p q)

/-! ## Blocks that take another value -/

/-- The counts of the dose integrator stand within their ranges (R132, R139, R153). -/
def DoseCountsOk (d : Dose) : Prop := d.lost ≤ 255 ∧ d.underCount ≤ 3 ∧ ∀ l ∈ d.lanes, l.acc ≤ 1048575

section
include h

/-- The sequencer and the dose integrator take other values. -/
theorem cycle_keeps {k : Sequencer} {d : Dose} (hclose : q.sequencer.closeTimeouts ≤ 3 → k.closeTimeouts ≤ 3)
    (hdose : DoseCountsOk q.dose → DoseCountsOk d)
    (hcontacts : ContactsOk q → closing k.platen = false → ∀ l ∈ d.lanes, l.contact = .ended) :
    Keeps p { q with sequencer := k, dose := d } := by
  refine h.trans ⟨id, id, id, id, id, fun hc => ?_, id, hcontacts⟩
  obtain ⟨hclash, hquiet, htimeouts, hlost, hunder, hfurther, hoverflow, hacc⟩ := hc
  obtain ⟨hlost', hunder', hacc'⟩ := hdose ⟨hlost, hunder, hacc⟩
  exact ⟨hclash, hquiet, hclose htimeouts, hlost', hunder', hfurther, hoverflow, hacc'⟩

/-- The sequencer takes another value, in CLOSING or DWELL wherever it was there. -/
theorem sequencer_keeps {k : Sequencer} (hclose : q.sequencer.closeTimeouts ≤ 3 → k.closeTimeouts ≤ 3 := by exact id)
    (hplaten : closing k.platen = false → closing q.sequencer.platen = false := by exact id) : Keeps p { q with sequencer := k } :=
  cycle_keeps (d := q.dose) h hclose id fun hq hk => hq (hplaten hk)

/-- The dose integrator takes another value, with every contact that has ended still ended. -/
theorem dose_keeps {d : Dose} (hdose : DoseCountsOk q.dose → DoseCountsOk d)
    (hcontacts : (∀ l ∈ q.dose.lanes, l.contact = .ended) → closing q.sequencer.platen = false → ∀ l ∈ d.lanes, l.contact = .ended) :
    Keeps p { q with dose := d } :=
  cycle_keeps (k := q.sequencer) h id hdose fun hq hk => hcontacts (hq hk) hk

theorem regulator_keeps {g : Regulator} (hdraws : DrawTableOk q.regulator.draws → DrawTableOk g.draws) :
    Keeps p { q with regulator := g } := h.trans ⟨id, id, id, hdraws, id, id, id, id⟩

theorem sampling_keeps {x : Sampling} (hreadings : ReadingsOk q.sampling → ReadingsOk x) : Keeps p { q with sampling := x } :=
  h.trans ⟨id, id, hreadings, id, id, id, id, id⟩

/-- The further-fault count stays within its range (R165). -/
theorem control_keeps {c : ModeController} (hfurther : q.control.fault.further ≤ 255 → c.fault.further ≤ 255) :
    Keeps p { q with control := c } := by
  refine h.trans ⟨id, id, id, id, id, fun hc => ?_, id, id⟩
  obtain ⟨hclash, hquiet, htimeouts, hlost, hunder, hold, hrest⟩ := hc
  exact ⟨hclash, hquiet, htimeouts, hlost, hunder, hfurther hold, hrest⟩

/-- The loader, the responder and the pins are not what the invariants speak of. -/
theorem rest_keeps (r : Responder) (l : Loader) (x : Pins) : Keeps p { q with responder := r, loader := l, pins := x } :=
  h.trans ⟨id, id, id, id, id, id, id, id⟩

/-! ## The mode -/

theorem setMode_keeps (m : Mode) : Keeps p (setMode m q) := by
  have hsequencer := sequencer_keeps (k := sequencerOnMode m q.sequencer) h
    (by unfold sequencerOnMode; split <;> exact id) (by unfold sequencerOnMode; split <;> exact id)
  exact control_keeps (c := { q.control with mode := m })
    (regulator_keeps (g := regulatorOnMode q.control.mode m q.regulator) hsequencer id) id

theorem runToHold_keeps : Keeps p (runToHold q) := by
  unfold runToHold; split
  · exact setMode_keeps h _
  · exact h

theorem stopToHold_keeps : Keeps p (stopToHold q) := by
  unfold stopToHold; split
  · exact setMode_keeps (tracker_keeps h (k := { q.tracker with quietCount := 0 }) rfl rfl fun _ => Nat.zero_le _) _
  · exact h

theorem holdToRun_keeps : Keeps p (holdToRun q) := by
  unfold holdToRun; split
  · exact setMode_keeps h _
  · exact h

theorem activateStop_keeps : Keeps p (activateStop q) := stopToHold_keeps (send_keeps (setLineStop_keeps h) _)

theorem enterAligned_keeps : Keeps p (enterAligned q) := by
  unfold enterAligned; split <;> exact setMode_keeps h _

theorem completeStart_keeps : Keeps p (completeStart q) := by
  have hmode := setMode_keeps (rest_keeps h q.responder { q.loader with phase := .complete, waitTimer := none } q.pins) .seek
  unfold completeStart
  dsimp only
  split
  · exact activateStop_keeps hmode
  · exact hmode

/-! ## Open and close commands -/

theorem openCommand_keeps : Keeps p (openCommand q) := by
  refine countAmount_keeps (cycle_keeps (d := endContacts q.dose) h (by exact id) (fun hd => ?_) fun _ _ => ?_) _ _
  · obtain ⟨hlost, hunder, hacc⟩ := hd
    exact ⟨hlost, hunder, List.forall_mem_map.2 hacc⟩
  · exact List.forall_mem_map.2 fun _ _ => rfl

theorem closeCommand_keeps (limit : Nat) (pressed : Nat → Bool) (aims : Nat → Nat) :
    Keeps p (closeCommand limit pressed aims q) :=
  cycle_keeps h id (fun ⟨_, hunder, _⟩ => ⟨Nat.zero_le _, hunder, List.forall_mem_map.2 fun _ _ => Nat.zero_le _⟩)
    fun _ hclosing => Bool.noConfusion hclosing

theorem backToOpen_keeps (hq : closing q.sequencer.platen = false) : Keeps p (backToOpen q) :=
  sequencer_keeps h (hplaten := fun _ => hq)

theorem noClose_keeps : Keeps p (noClose q) :=
  dose_keeps h (fun ⟨_, hunder, _⟩ => ⟨Nat.zero_le _, hunder, List.forall_mem_map.2 fun _ _ => Nat.zero_le _⟩)
    fun _ _ => List.forall_mem_map.2 fun _ _ => rfl

/-! ## Settle ends and dry cycles -/

theorem settleRow_keeps (hq : closing q.sequencer.platen = false) : Keeps p (settleRow q) := by
  have hfrozen := freezeHead_keeps h
  unfold settleRow
  dsimp only
  split
  · exact backToOpen_keeps hfrozen (by simpa)
  · split
    · exact closeCommand_keeps hfrozen _ _ _
    · exact backToOpen_keeps (concludeHead_keeps (noClose_keeps hfrozen) _) (by simpa)

theorem settleDry_keeps (hq : closing q.sequencer.platen = false) : Keeps p (settleDry q) := by
  unfold settleDry; split
  · exact closeCommand_keeps h _ _ _
  · exact sequencer_keeps (backToOpen_keeps h hq)

theorem beginDry_keeps (hq : closing q.sequencer.platen = false) : Keeps p (beginDry q) := by
  unfold beginDry
  dsimp only
  split
  · exact settleDry_keeps (sequencer_keeps h (hplaten := fun _ => hq)) rfl
  · exact sequencer_keeps h (hplaten := fun _ => hq)

theorem beginDue_keeps : Keeps p (beginDue q) := by
  unfold beginDue; split
  next hdue => exact beginDry_keeps h (by rw [hdue.2.2]; rfl)
  · exact h

theorem beginSettle_keeps (hq : closing q.sequencer.platen = false) : Keeps p (beginSettle q) := by
  unfold beginSettle
  dsimp only
  split
  · exact settleRow_keeps (sequencer_keeps h (hplaten := fun _ => hq)) rfl
  · exact sequencer_keeps h (hplaten := fun _ => hq)

theorem endDry_keeps (aborted forced : Bool) : Keeps p (endDry aborted forced q) := by
  unfold endDry
  dsimp only
  split
  · exact h
  · split
    · exact logCycle_keeps (sequencer_keeps h) _ _ _ _
    · exact sequencer_keeps h

/-! ## The entry to OPEN -/

theorem concludeArrival_keeps : Keeps p (concludeArrival q) := by
  unfold concludeArrival; split
  · exact endDry_keeps h _ _
  · split
    · exact concludeHead_keeps h _
    · exact h

theorem applyPending_keeps : Keeps p (applyPending q) := by
  unfold applyPending; split
  · exact applyRealignment_keeps h _
  · exact h

theorem completeIfWaiting_keeps : Keeps p (completeIfWaiting q) := by
  unfold completeIfWaiting; split
  · exact completeStart_keeps h
  · exact h

theorem enterOpen_keeps (hq : closing q.sequencer.platen = false) : Keeps p (enterOpen q) :=
  completeIfWaiting_keeps (beginDue_keeps (applyPending_keeps (concludeArrival_keeps (sequencer_keeps h (hplaten := fun _ => hq)))))

theorem arrive_keeps : Keeps p (arrive q) := by
  unfold arrive; split
  next hopening => exact enterOpen_keeps h (by rw [hopening.1]; rfl)
  · exact h

end

/-! ## Cutting a dry cycle, entering FAULT -/

theorem endDry_platen (aborted forced : Bool) (q : Part) : (endDry aborted forced q).sequencer.platen = q.sequencer.platen := by
  unfold endDry
  dsimp only
  split
  · rfl
  · split <;> simp

section
include h

theorem cutDry_keeps (forced : Bool) : Keeps p (cutDry forced q) := by
  unfold cutDry
  split
  next hsettle => exact backToOpen_keeps (endDry_keeps h _ _) (by rw [endDry_platen, hsettle]; rfl)
  · exact endDry_keeps (openCommand_keeps h) _ _
  · exact endDry_keeps (openCommand_keeps h) _ _
  · exact endDry_keeps h _ _
  · exact sequencer_keeps h

theorem abortDry_keeps (forced : Bool) : Keeps p (abortDry forced q) := by
  unfold abortDry
  split
  · exact setMode_keeps (cutDry_keeps h _) _
  · exact setMode_keeps h _

theorem faultSequencer_keeps : Keeps p (faultSequencer q) := by
  unfold faultSequencer; split
  · exact cutDry_keeps h _
  · split
    · exact openCommand_keeps (dose_keeps h id fun hended _ => hended)
    · exact openCommand_keeps (dose_keeps h id fun hended _ => hended)
    · exact h

theorem takeFault_keeps (code : Nat) : Keeps p (takeFault code q) := by
  unfold takeFault
  dsimp only
  split
  · exact control_keeps h fun _ => Nat.min_le_left _ _
  · exact faultSequencer_keeps (regulator_keeps (send_keeps (setMode_keeps (control_keeps h fun _ => Nat.zero_le _) _) _) id)

end

end Sys2Proof.Machine.StepInvariants
end

section
/-! The walk of the step invariants ends: sampling, regulation, ticks, due events, loading, requests and reception; then every command,
and O4 to O7. -/

namespace Sys2Proof.Machine.StepInvariants

open TransmitQueue DrawTable Effects

/-! ## Readings and lanes -/

theorem temperatureOf_le (c : Configuration) (channel : Nat) (average : Int) : temperatureOf c channel average ≤ 1600 := by
  unfold temperatureOf clampInt; omega

theorem pressureOf_le (c : Configuration) (readings : List Nat) : pressureOf c readings ≤ 1000 := by
  unfold pressureOf clampInt; omega

theorem sampleChannel_temp {c : Configuration} {channel : Nat} {conv : List Conversion} {x : Channel} (hx : x.temp ≤ 1600) :
    (sampleChannel c channel conv x).temp ≤ 1600 := by
  unfold sampleChannel takeTemperature
  dsimp only
  repeat' split
  all_goals first | exact hx | exact temperatureOf_le ..

theorem sampleUnused_temp {c : Configuration} {channel : Nat} {conv : List Conversion} {x : Channel} (hx : x.temp ≤ 1600) :
    (sampleUnused c channel conv x).temp ≤ 1600 := by
  unfold sampleUnused; split
  · exact hx
  · exact temperatureOf_le ..

/-- A tick hands on readings in their ranges (R85). -/
theorem readingsOk_sampleUnit {c : Configuration} {conv : Conversions} {x : Sampling} (hx : ReadingsOk x) :
    ReadingsOk (sampleUnit c conv x) := by
  obtain ⟨hchannels, hpressure⟩ := hx
  unfold sampleUnit; split
  · refine ⟨forall_mapIndexed fun i y hy => ?_, pressureOf_le ..⟩
    split
    · exact sampleChannel_temp (hchannels y hy)
    · exact sampleUnused_temp (hchannels y hy)
  · exact ⟨hchannels, hpressure⟩

theorem forall_updateAt {α : Type} {l : List α} {i : Nat} {f : α → α} {P : α → Prop} (hl : ∀ x ∈ l, P x)
    (hf : ∀ x ∈ l, P (f x)) : ∀ x ∈ updateAt l i f, P x := by
  intro x hx
  obtain ⟨j, hj⟩ := List.mem_iff_getElem?.1 hx
  rw [updateAt_getElem?] at hj
  split at hj
  · obtain ⟨y, hy, rfl⟩ := Option.map_eq_some_iff.1 hj
    exact hf y (List.mem_of_getElem? hy)
  · exact hl x (List.mem_of_getElem? hj)

theorem failLane_acc (l : LaneDose) : (failLane l).acc = l.acc := by unfold failLane; split <;> rfl

theorem failLane_contact (l : LaneDose) : (failLane l).contact = .ended := by
  unfold failLane; split
  · assumption
  · rfl

theorem sampleLane_acc {lead sample inc : Nat} {row drift isOpen : Bool} {l : LaneDose} (hl : l.acc ≤ 1048575) :
    (sampleLane lead row sample drift isOpen inc l).acc ≤ 1048575 := by
  unfold sampleLane liftLane addSample
  repeat' split
  all_goals first | exact hl | exact (failLane_acc l).trans_le hl | exact accumulate_le ..

/-- A dwell sample leaves a contact that has ended (R142). -/
theorem sampleLane_of_ended {lead sample inc : Nat} {row drift isOpen : Bool} {l : LaneDose} (hl : l.contact = .ended) :
    sampleLane lead row sample drift isOpen inc l = l := by unfold sampleLane; rw [hl]

variable {p q : Part} (h : Keeps p q)

/-! ## Regulation and reference checks -/

section
include h

theorem startCheck_keeps : Keeps p (startCheck q) := sampling_keeps h (by exact id)

theorem startAfterCheck_keeps (r : CheckResult) : Keeps p (startAfterCheck r q) := by
  unfold startAfterCheck
  split
  · split
    · exact rest_keeps h _ _ _
    · split
      · exact completeStart_keeps h
      · exact rest_keeps h _ _ _
  · exact h

theorem answerCheck_keeps : Keeps p (answerCheck q) := by
  unfold answerCheck; split
  · exact h
  · exact send_keeps (rest_keeps h _ _ _) _

theorem afterCheck_keeps (r : CheckResult) : Keeps p { q with sampling := afterCheck r q.sampling } :=
  sampling_keeps h (by cases r <;> exact id)

theorem endCheck_keeps : Keeps p (endCheck q) := by
  unfold endCheck
  dsimp only
  split
  · exact h
  · refine answerCheck_keeps ?_
    split
    · exact regulator_keeps (takeFault_keeps (startAfterCheck_keeps (raiseIf_keeps (afterCheck_keeps h _) _ _) _) _) (by exact id)
    · exact startAfterCheck_keeps (raiseIf_keeps (afterCheck_keeps h _) _ _) _

theorem applyDraw_keeps (station : BitVec 5) (x : ReceivedDraw) : Keeps p (applyDraw station x q) := by
  unfold applyDraw; split
  · exact h
  · split
    · exact regulator_keeps h (ok_enterDraw rfl)
    · exact h

theorem takeDrawNotice_keeps (hd : Header) (payload : List Byte) : Keeps p (takeDrawNotice hd payload q) := by
  unfold takeDrawNotice; split
  · exact count_keeps h _
  · exact applyDraw_keeps h _ _

theorem sendDraw_keeps : Keeps p (sendDraw q) := by
  unfold sendDraw; split
  · exact h
  · exact send_keeps h _

theorem endBudget_keeps : Keeps p (endBudget q) :=
  regulator_keeps (sendDraw_keeps (regulator_keeps h (by exact ok_ageDraws))) (by exact id)

theorem readRegulator_keeps : Keeps p (readRegulator q) :=
  raiseIf_keeps (monitor_keeps h (countersOk_takeConditions _)) _ _

theorem endPeriod_keeps : Keeps p (endPeriod q) := by
  have hduties : Keeps p (computeDuties q) := regulator_keeps h (by exact id)
  unfold endPeriod
  dsimp only
  split
  · exact readRegulator_keeps (regulator_keeps (endBudget_keeps hduties) (by exact id))
  · exact readRegulator_keeps (regulator_keeps hduties (by exact id))

theorem endDuePeriod_keeps : Keeps p (endDuePeriod q) := by
  unfold endDuePeriod; split
  · exact endPeriod_keeps h
  · exact h

theorem endDueBudget_keeps : Keeps p (endDueBudget q) := by
  unfold endDueBudget; split
  · exact endPeriod_keeps h
  · exact h

theorem endDueCheck_keeps : Keeps p (endDueCheck q) := by
  unfold endDueCheck; split
  · exact endCheck_keeps h
  · exact h

theorem endIdle_keeps : Keeps p (endIdle q) := by
  unfold endIdle; split
  · exact regulator_keeps h (by exact id)
  · exact h

theorem endHeater_keeps (lane : Nat) : Keeps p (endHeater lane q) := by
  unfold endHeater; split
  · exact regulator_keeps h (by exact id)
  · exact h

theorem endHeaters_keeps : Keeps p (endHeaters q) := regulator_keeps h (by exact id)

theorem advanceIdle_keeps : Keeps p (advanceIdle q) := by
  unfold advanceIdle; split
  · exact regulator_keeps h (by exact id)
  · exact h

/-! ## The cycle's tick and the lags -/

theorem dwellSample_keeps : Keeps p (dwellSample q) := by
  refine dose_keeps h (fun ⟨hlost, hunder, hacc⟩ => ⟨?_, hunder, ?_⟩) fun hended _ => ?_
  · split
    · exact Nat.min_le_left _ _
    · exact hlost
  · exact forall_mapIndexed fun _ l hl => sampleLane_acc (hacc l hl)
  · exact forall_mapIndexed fun _ l hl => (congrArg _ (sampleLane_of_ended (hended l hl))).trans (hended l hl)

theorem failClosing_keeps : Keeps p (failClosing q) := by
  refine dose_keeps h (fun ⟨hlost, hunder, hacc⟩ => ⟨hlost, hunder, ?_⟩) fun hended _ => ?_
  · refine forall_mapIndexed fun _ l hl => ?_
    split
    · exact (failLane_acc l).trans_le (hacc l hl)
    · exact hacc l hl
  · refine forall_mapIndexed fun _ l hl => ?_
    split
    · exact failLane_contact l
    · exact hended l hl

theorem openIfEnded_keeps : Keeps p (openIfEnded q) := by
  unfold openIfEnded; split
  · exact openCommand_keeps h
  · exact h

theorem enterDwell_keeps : Keeps p (enterDwell q) :=
  cycle_keeps h (fun _ => Nat.zero_le 3) (by exact id) fun _ hclosing => Bool.noConfusion hclosing

theorem cycleTick_keeps : Keeps p (cycleTick q) := by
  unfold cycleTick; split
  · split
    · exact openIfEnded_keeps (dwellSample_keeps (enterDwell_keeps h))
    · exact openIfEnded_keeps (failClosing_keeps h)
  · exact openIfEnded_keeps (dwellSample_keeps h)
  · exact h

theorem levelAlarms_keeps : Keeps p (levelAlarms q) := raiseIf_keeps (raiseIf_keeps (raiseIf_keeps h _ _) _ _) _ _

theorem monitorTick_keeps (lost : Bool) : Keeps p (monitorTick lost q) :=
  monitor_keeps h fun hm => countersOk_takeConditions _ (countersOk_addAll _ (countersOk_countTick hm))

theorem tick_keeps (conv : Conversions) : Keeps p (tick conv q) := by
  have hcut : Keeps p (cutHeaters (takeConversions conv q)) :=
    regulator_keeps (sampling_keeps h readingsOk_sampleUnit) (by exact id)
  have hcounted : Keeps p (countPeriodTick (advanceIdle (levelAlarms (cycleTick (cutHeaters (takeConversions conv q)))))) :=
    regulator_keeps (advanceIdle_keeps (levelAlarms_keeps (cycleTick_keeps hcut))) (by exact id)
  unfold tick
  dsimp only
  refine regulator_keeps ?_ (by exact id)
  split
  · exact monitorTick_keeps hcounted _
  · exact readRegulator_keeps (monitorTick_keeps hcounted _)

theorem takeTick_keeps (conv : Conversions) : Keeps p (takeTick conv q) := by
  unfold takeTick; split
  · exact tick_keeps h conv
  · exact h

theorem recover_keeps (channel : Nat) (conv : List Conversion) : Keeps p (recover channel conv q) := by
  unfold recover; split
  · refine sampling_keeps h fun ⟨hchannels, hpressure⟩ => ⟨?_, hpressure⟩
    exact forall_updateAt hchannels fun x _ => temperatureOf_le ..
  · exact h

theorem openAfterLag_keeps : Keeps p (openAfterLag q) := by
  unfold openAfterLag; split
  · exact openIfEnded_keeps h
  · exact h

theorem endLag_keeps (lane : Nat) : Keeps p (endLag lane q) := by
  unfold endLag; split
  · exact openAfterLag_keeps (dose_keeps h
      (fun ⟨hlost, hunder, hacc⟩ => ⟨hlost, hunder, forall_updateAt hacc hacc⟩)
      fun hended _ => forall_updateAt hended fun _ _ => rfl)
  · exact h

theorem endLags_keeps : Keeps p (endLags q) := by
  unfold endLags; split
  · refine openAfterLag_keeps (dose_keeps h (fun ⟨hlost, hunder, hacc⟩ => ⟨hlost, hunder, ?_⟩) fun hended _ => ?_)
    · exact List.forall_mem_map.2 fun l hl => by split <;> exact hacc l hl
    · exact List.forall_mem_map.2 fun l hl => by split; exacts [rfl, hended l hl]
  · exact h

theorem endAtLimit_keeps : Keeps p (endAtLimit q) := by
  unfold endAtLimit; split
  · exact openCommand_keeps h
  · exact h

theorem endDryDwell_keeps : Keeps p (endDryDwell q) := by
  unfold endDryDwell; split
  · exact openCommand_keeps h
  · exact h

end

/-- A dry lift falls due in DWELL alone (R129). -/
theorem closing_of_dryLiftDue {q : Part} {i : Nat} (hdue : dryLiftDue q i = true) : closing q.sequencer.platen = true := by
  simp only [dryLiftDue, Bool.and_eq_true, beq_iff_eq] at hdue
  obtain ⟨⟨⟨⟨hplaten, -⟩, -⟩, -⟩, -⟩ := hdue
  rw [hplaten]; rfl

section
include h

theorem dryLift_keeps (lane : Nat) : Keeps p (dryLift lane q) := by
  unfold dryLift; split
  next hdue =>
    refine dose_keeps h (fun ⟨hlost, hunder, hacc⟩ => ⟨hlost, hunder, forall_updateAt hacc hacc⟩) fun _ hopen => ?_
    rw [closing_of_dryLiftDue hdue] at hopen; exact Bool.noConfusion hopen
  · exact h

theorem dryLifts_keeps : Keeps p (dryLifts q) := by
  refine dose_keeps h (fun ⟨hlost, hunder, hacc⟩ => ⟨hlost, hunder, ?_⟩) fun hended hopen => ?_
  · exact forall_mapIndexed fun i l hl => by split <;> exact hacc l hl
  · refine forall_mapIndexed fun i l hl => ?_
    split
    next hdue => rw [closing_of_dryLiftDue hdue] at hopen; exact Bool.noConfusion hopen
    · exact hended l hl

/-! ## Index edges, timers and pins -/

theorem openIfClosed_keeps : Keeps p (openIfClosed q) := by
  unfold openIfClosed; split
  · exact openCommand_keeps h
  · exact openCommand_keeps h
  · exact h

theorem forcedIndex_keeps : Keeps p (forcedIndex q) := by
  unfold forcedIndex
  dsimp only
  split
  · exact takeFault_keeps (raise_keeps (openIfClosed_keeps (abortDry_keeps h _)) _) _
  · exact takeFault_keeps (raise_keeps (openIfClosed_keeps h) _) _

theorem tellSequencer_keeps : Keeps p (tellSequencer q) := by
  unfold tellSequencer; split
  · exact forcedIndex_keeps h
  next haway =>
    have hopen : closing q.sequencer.platen = false := by
      cases hplaten : q.sequencer.platen <;> simp_all [platenAway, closing]
    split
    · exact beginSettle_keeps h hopen
    · exact abortDry_keeps h _
    · exact backToOpen_keeps h hopen

theorem advanceRows_keeps : Keeps p (advanceRows q) := by
  unfold advanceRows; split
  · unfold advanceCandidate; split
    · exact tracker_keeps h rfl rfl (by exact id)
    · exact h
  next t ht => exact tellSequencer_keeps (advanceQueue_keeps (concludeHead_keeps h _) ((concludeHead_h _ q).trans ht))

theorem acceptIndex_keeps (t : Nat) : Keeps p (acceptIndex t q) := by
  have hrecorded := ageQueue_keeps (count_keeps (tracker_keeps (k := recordEdge t q.tracker) h rfl rfl (by exact id)) .index)
  have hidle := regulator_keeps (g := { (ageQueue (count .index { q with tracker := recordEdge t q.tracker })).regulator with
    idleClock := 0, idle := false }) hrecorded (by exact id)
  refine clearChatter_keeps (advanceRows_keeps (tracker_keeps hidle rfl rfl fun _ => ?_))
  unfold quietAfterIndex; split
  · exact Nat.min_le_left _ _
  · exact Nat.zero_le _

theorem takeEdge_keeps (now : Nat) : Keeps p (takeEdge now q) := by
  have hread : Keeps p (readClock now q) := tracker_keeps h rfl rfl (by exact id)
  unfold takeEdge
  dsimp only
  split
  · exact h
  · split
    · exact count_keeps (tracker_keeps (k := { (readClock now q).tracker with chatter := true }) hread rfl rfl (by exact id)) _
    · exact acceptIndex_keeps hread _

theorem endSettle_keeps : Keeps p (endSettle q) := by
  unfold endSettle; split
  next hdue =>
    have hopen : closing q.sequencer.platen = false := by rw [hdue.1]; rfl
    split
    · exact beginDue_keeps (settleDry_keeps h hopen)
    · exact settleRow_keeps h hopen
  · exact h

theorem concludeTimeout_keeps : Keeps p (concludeTimeout q) := by
  unfold concludeTimeout; split
  · exact concludeHead_keeps h _
  · exact logCycle_keeps (sequencer_keeps h) _ _ _ _

theorem countTimeout_keeps : Keeps p (countTimeout q) := by
  have hcounted : Keeps p { q with sequencer := { q.sequencer with closeTimeouts := min 3 (q.sequencer.closeTimeouts + 1) } } :=
    sequencer_keeps h (hclose := fun _ => Nat.min_le_left _ _)
  unfold countTimeout
  dsimp only
  split
  · exact takeFault_keeps hcounted _
  · exact hcounted

theorem timeOutClose_keeps : Keeps p (timeOutClose q) := by
  unfold timeOutClose; split
  · exact countTimeout_keeps (raise_keeps (concludeTimeout_keeps (openCommand_keeps h)) _)
  · exact h

theorem timeOutOpen_keeps : Keeps p (timeOutOpen q) := by
  unfold timeOutOpen; split
  · exact takeFault_keeps (raise_keeps (sequencer_keeps h) _) _
  · exact h

theorem expireDryPeriod_keeps : Keeps p (expireDryPeriod q) := by
  unfold expireDryPeriod; split
  · split
    next hopen => exact beginDry_keeps h (by rw [hopen]; rfl)
    · exact sequencer_keeps h
  · exact h

theorem stopInputOn_keeps : Keeps p (stopInputOn q) := by
  unfold stopInputOn
  dsimp only
  split
  · exact h
  · split
    · exact rest_keeps h _ _ _
    · exact activateStop_keeps (rest_keeps h _ _ _)

/-! ## Loading and resets -/

theorem putInForce_keeps (b : List Byte) : Keeps p (putInForce b q) := by
  refine startCheck_keeps (raiseIf_keeps ?_ _ _)
  exact (sequencer_keeps (regulator_keeps (rest_keeps h q.responder
    { q.loader with phase := .checking, block := some b, config := some (clampBlock (readBlock b)) } q.pins) (by exact id)))

theorem loadBlock_keeps (m : MemoryRead) : Keeps p (loadBlock m q) := by
  unfold loadBlock
  dsimp only
  split
  · split
    · split
      · exact rest_keeps h _ _ _
      · exact putInForce_keeps h _
    · exact rest_keeps h _ _ _
  · exact h

theorem crystalRuns_keeps : Keeps p (crystalRuns q) := by
  unfold crystalRuns; split
  · exact rest_keeps h _ _ _
  · exact h

theorem crystalFails_keeps : Keeps p (crystalFails q) := by
  unfold crystalFails; split
  · exact raise_keeps (rest_keeps h _ _ _) _
  · exact h

theorem timeOutStart_keeps : Keeps p (timeOutStart q) := by
  unfold timeOutStart; split
  · exact takeFault_keeps (rest_keeps h _ _ _) _
  · exact h

/-- A reset leaves every block at values within its limits; the counters and the dwell log stay (R182, R187). -/
theorem resetPart_keeps : Keeps p (resetPart q) := by
  refine h.trans ⟨fun _ => rfl, fun _ => ⟨Nat.zero_le _, .nil, Nat.zero_le _, Nat.zero_le _, .nil⟩, fun _ => ?_, fun _ => ?_, id,
    fun hc => ?_, id, fun _ _ => ?_⟩
  · exact ⟨fun x hx => by rw [List.eq_of_mem_replicate hx]; exact Nat.zero_le _, Nat.zero_le _⟩
  · exact ⟨Nat.zero_le _, .nil, fun _ hd => absurd hd List.not_mem_nil⟩
  · obtain ⟨-, -, -, -, -, -, hoverflow, -⟩ := hc
    exact ⟨Nat.zero_le _, Nat.zero_le _, Nat.zero_le _, Nat.zero_le _, Nat.zero_le _, Nat.zero_le _, hoverflow,
      fun l hl => by rw [List.eq_of_mem_replicate hl]; exact Nat.zero_le _⟩
  · intro l hl; rw [List.eq_of_mem_replicate hl]; rfl

theorem beginStart_keeps : Keeps p (beginStart q) := by
  unfold beginStart; split
  · exact h
  · exact rest_keeps h _ _ _

theorem powerPart_keeps : Keeps p (powerPart q) := by
  refine beginStart_keeps ((resetPart_keeps h).trans ⟨id, id, id, id, fun _ => ⟨rfl, fun c hc => ?_⟩, fun hc => ?_, fun _ => Nat.zero_le _, id⟩)
  · rw [List.eq_of_mem_replicate hc]; decide
  · obtain ⟨hclash, hquiet, htimeouts, hlost, hunder, hfurther, -, hacc⟩ := hc
    exact ⟨hclash, hquiet, htimeouts, hlost, hunder, hfurther, Nat.zero_le _, hacc⟩

theorem releaseReset_keeps : Keeps p (releaseReset q) := by
  have hpins := rest_keeps h q.responder q.loader { q.pins with resetInput := false }
  unfold releaseReset
  dsimp only
  split
  · exact rest_keeps hpins _ _ _
  · exact hpins

/-! ## The end of an event, and what is due -/

theorem restartIfDue_keeps : Keeps p (restartIfDue q) := by
  unfold restartIfDue; split
  · exact beginStart_keeps (resetPart_keeps h)
  · exact h

theorem conclude_keeps : Keeps p (conclude q) := arrive_keeps (restartIfDue_keeps (arrive_keeps h))

theorem finish_keeps : Keeps p (finish q) := rest_keeps (conclude_keeps h) _ _ _

theorem ready_keeps : Keeps p (ready q) :=
  conclude_keeps (endDuePeriod_keeps (endHeaters_keeps (endIdle_keeps (restartIfDue_keeps (endDueCheck_keeps (endDryDwell_keeps
    (dryLifts_keeps (endAtLimit_keeps (endLags_keeps h)))))))))

/-! ## Requests -/

theorem reply_keeps (hd : Header) (code : Byte) (status : ReplyStatus) (data : List Byte) :
    Keeps p (reply hd code status data q) := send_keeps h _

theorem request_keeps {hd : Header} {code : Byte} {size : Nat} {args : List Byte} {accepted : Part → Bool} {act : Part → Part}
    (hact : Keeps p (act q)) : Keeps p (request hd code size args accepted act q) := by
  unfold request; split
  · split
    · exact hact
    · exact reply_keeps h _ _ _ _
  · exact reply_keeps h _ _ _ _

theorem clearFlags_keeps (flags : BitVec 16) : Keeps p (clearFlags flags q) := control_keeps h (by exact id)

theorem requestStatus_keeps (hd : Header) (args : List Byte) : Keeps p (requestStatus hd args q) := by
  refine request_keeps h (reply_keeps ?_ _ _ _ _)
  unfold clearOnStatus; split
  · exact clearFlags_keeps h _
  · exact h

theorem requestClearCounters_keeps (hd : Header) (args : List Byte) : Keeps p (requestClearCounters hd args q) := by
  refine request_keeps h (reply_keeps (monitor_keeps h fun ⟨hlength, _⟩ => ?_) _ _ _ _)
  exact ⟨by simpa only [List.length_map] using hlength, List.forall_mem_map.2 fun _ _ => by decide⟩

theorem requestLogA_keeps (hd : Header) (args : List Byte) : Keeps p (requestLogA hd args q) := by
  refine request_keeps h ?_
  unfold answerLogA; split <;> exact reply_keeps h _ _ _ _

theorem dropOldest_keeps : Keeps p (dropOldest q) := by
  refine h.trans ⟨id, id, id, id, id, id, fun hlog => ?_, id⟩
  unfold LogOk at hlog ⊢
  simp only [dropOldest, List.length_drop]; omega

theorem requestLogB_keeps (hd : Header) (args : List Byte) : Keeps p (requestLogB hd args q) := by
  refine request_keeps h ?_
  unfold answerLogB; split
  · exact reply_keeps h _ _ _ _
  · exact reply_keeps (dropOldest_keeps h) _ _ _ _

theorem requestRow_keeps (hd : Header) (args : List Byte) : Keeps p (requestRow hd args q) := by
  refine request_keeps h ?_
  unfold answerRow; split <;> exact reply_keeps h _ _ _ _

theorem requestConfig_keeps (hd : Header) (args : List Byte) : Keeps p (requestConfig hd args q) := by
  refine request_keeps h ?_
  unfold answerConfig; split <;> exact reply_keeps h _ _ _ _

/-- The clash count takes a value within its range (R18). -/
theorem clashCount_keeps {x : LinePort} (hqueue : x.queue = q.port.queue) (hclash : q.port.clashCount ≤ 255 → x.clashCount ≤ 255) :
    Keeps p { q with port := x } := by
  refine h.trans ⟨id, fun hq => (by rw [hqueue]; exact hq), id, id, id, fun hc => ?_, id, id⟩
  obtain ⟨hold, hrest⟩ := hc
  exact ⟨hclash hold, hrest⟩

theorem requestClearAlarms_keeps (hd : Header) (args : List Byte) : Keeps p (requestClearAlarms hd args q) := by
  refine request_keeps h (reply_keeps (clearFlags_keeps ?_ _) _ _ _ _)
  unfold clearClash; split
  · exact clashCount_keeps h rfl fun _ => Nat.zero_le _
  · exact h

theorem flushToSeek_keeps (cause : VoidCause) : Keeps p (flushToSeek cause q) :=
  setMode_keeps (underCount_keeps (flush_keeps h cause) (Nat.zero_le 3)) _

theorem clearFaultSteps_keeps : Keeps p (clearFaultSteps q) := by
  have hcleared := control_keeps (c := { q.control with fault := FaultRecord.cleared }) h fun _ => Nat.zero_le _
  unfold clearFaultSteps
  exact flushToSeek_keeps
    (sequencer_keeps (k := { q.sequencer with closeTimeouts := 0 }) hcleared (hclose := fun _ => Nat.zero_le 3)) _

theorem requestDryStart_keeps (hd : Header) (args : List Byte) : Keeps p (requestDryStart hd args q) := by
  unfold requestDryStart request
  split
  · split
    next haccepted =>
      simp only [dryStartAccepted, Bool.and_eq_true, beq_iff_eq] at haccepted
      refine reply_keeps (beginDry_keeps (setMode_keeps h _) ?_) _ _ _ _
      rw [setMode_platen, haccepted.2]; rfl
    · exact reply_keeps h _ _ _ _
  · exact reply_keeps h _ _ _ _

theorem requestRestart_keeps (hd : Header) (args : List Byte) : Keeps p (requestRestart hd args q) :=
  request_keeps h (join_keeps (rest_keeps h { q.responder with pendingRestart := true } q.loader q.pins) rfl)

theorem requestClearFault_keeps (hd : Header) (args : List Byte) : Keeps p (requestClearFault hd args q) :=
  request_keeps h (reply_keeps (clearFaultSteps_keeps h) _ _ _ _)

theorem requestHold_keeps (hd : Header) (args : List Byte) : Keeps p (requestHold hd args q) :=
  request_keeps h (reply_keeps (runToHold_keeps (control_keeps h (by exact id))) _ _ _ _)

theorem requestRelease_keeps (hd : Header) (args : List Byte) : Keeps p (requestRelease hd args q) :=
  request_keeps h (reply_keeps (holdToRun_keeps (control_keeps h (by exact id))) _ _ _ _)

theorem requestResync_keeps (hd : Header) (args : List Byte) : Keeps p (requestResync hd args q) :=
  request_keeps h (reply_keeps (flushToSeek_keeps h _) _ _ _ _)

theorem requestRefCheck_keeps (hd : Header) (args : List Byte) : Keeps p (requestRefCheck hd args q) :=
  request_keeps h (startCheck_keeps (rest_keeps h { q.responder with pendingCheck := some hd.station } q.loader q.pins))

theorem requestDryStop_keeps (hd : Header) (args : List Byte) : Keeps p (requestDryStop hd args q) :=
  request_keeps h (reply_keeps (abortDry_keeps h _) _ _ _ _)

/-- The requests that read or set the monitor leave its counters. -/
theorem monitorRequest_keeps {hd : Header} {code : Byte} {size : Nat} {args : List Byte} {accepted : Part → Bool}
    {data : List Byte} {m : Monitor} (hm : m.counters = q.monitor.counters) :
    Keeps p (request hd code size args accepted (fun _ => reply hd code .done data { q with monitor := m }) q) :=
  request_keeps h (reply_keeps (monitor_keeps h fun hq => by unfold CountersOk at hq ⊢; rw [hm]; exact hq) _ _ _ _)

theorem takeRequest_keeps (code : Byte) (hd : Header) (args : List Byte) : Keeps p (takeRequest code hd args q) := by
  unfold takeRequest
  split
  · exact requestStatus_keeps h hd args
  iterate 5 exact monitorRequest_keeps h rfl
  · exact requestClearCounters_keeps h hd args
  · exact requestLogA_keeps h hd args
  · exact requestLogB_keeps h hd args
  · exact requestRow_keeps h hd args
  · exact requestConfig_keeps h hd args
  · exact requestClearAlarms_keeps h hd args
  · exact requestClearFault_keeps h hd args
  · exact requestHold_keeps h hd args
  · exact requestRelease_keeps h hd args
  · exact requestResync_keeps h hd args
  · exact requestRefCheck_keeps h hd args
  · exact requestDryStart_keeps h hd args
  · exact requestDryStop_keeps h hd args
  · exact requestRestart_keeps h hd args
  · exact reply_keeps h _ _ _ _

/-! ## Reception -/

theorem takeRun_keeps : Keeps p (takeRun q) := by
  unfold takeRun
  dsimp only
  split <;> split
  · exact abortDry_keeps h _
  · exact holdToRun_keeps (clearLineStop_keeps (abortDry_keeps h _))
  · exact h
  · exact holdToRun_keeps (clearLineStop_keeps h)

theorem takeLineState_keeps (payload : List Byte) : Keeps p (takeLineState payload q) := by
  unfold takeLineState; split
  · exact count_keeps h _
  · exact takeRun_keeps h
  · exact stopToHold_keeps (setLineStop_keeps h)

theorem takeServiceRequest_keeps (hd : Header) (payload : List Byte) : Keeps p (takeServiceRequest hd payload q) := by
  unfold takeServiceRequest; split
  · split
    · split
      · exact takeRequest_keeps h _ _ _
      · exact h
    · exact h
  · exact count_keeps h _

theorem dispatch_keeps (kind : Nat) (hd : Header) (payload : List Byte) : Keeps p (dispatch kind hd payload q) := by
  unfold dispatch; split
  · exact takeLineState_keeps h _
  · exact takeRowVerdict_keeps h _ _
  · exact takeSealReport_keeps h _ _
  · exact takeVoidNotice_keeps h _ _
  · exact takeDrawNotice_keeps h _ _
  · exact takeServiceRequest_keeps h _ _
  · exact h
  · exact count_keeps h _

theorem takeCandidate_keeps (i : Tag) : Keeps p (takeCandidate i q) := by
  have hcounted : Keeps p { q with tracker := nextCandidate q.tracker i } := by
    refine tracker_keeps h ?_ ?_ ?_ <;> unfold nextCandidate <;> split
    all_goals first | rfl | exact id
  unfold takeCandidate
  dsimp only
  split
  · exact enterAligned_keeps (alignAt_keeps hcounted _)
  · exact hcounted

theorem takeEvidence_keeps (hd : Header) : Keeps p (takeEvidence hd q) := by
  have hquiet := tracker_keeps (k := { q.tracker with quietCount := 0 }) h rfl rfl fun _ => Nat.zero_le _
  unfold takeEvidence
  dsimp only
  split
  · exact h
  · split
    · exact takeSkew_keeps hquiet _ _
    · split
      · exact takeCandidate_keeps hquiet _
      · exact hquiet

end

/-- The handling of a frame's payload or of a request keeps every invariant. -/
def HandlerKeeps (handle : Part → Part) : Prop := ∀ {p q : Part}, Keeps p q → Keeps p (handle q)

section
include h

theorem receive_keeps (hd : Header) {handle : Part → Part} (hhandle : HandlerKeeps handle) : Keeps p (receive hd handle q) := by
  unfold receive; split
  · exact count_keeps h _
  · split
    · exact raise_keeps h _
    · exact hhandle (takeEvidence_keeps (count_keeps h _) _)

theorem arrival_keeps (hd : Header) {handle : Part → Part} (hhandle : HandlerKeeps handle) : Keeps p (arrival hd handle q) := by
  unfold arrival; split
  · exact receive_keeps (portMarks_keeps h _ _ _) _ hhandle
  · exact h

theorem arrivalOfBits_keeps (bits : List Bool) : Keeps p (arrivalOfBits bits q) := by
  unfold arrivalOfBits; split
  · have hbusy : Keeps p (if receiveBits bits = .bad .earlyQuiet then endReception q else lineBusy q) := by
      split <;> exact portMarks_keeps h _ _ _
    unfold takeBits; split
    · exact receive_keeps hbusy _ fun hk => dispatch_keeps hk _ _ _
    · exact count_keeps hbusy _
    · exact count_keeps hbusy _
    · exact count_keeps (portMarks_keeps hbusy _ _ _) _
    · exact count_keeps (portMarks_keeps hbusy _ _ _) _
  · exact h

theorem takeMark_keeps (mark : Byte) : Keeps p (takeMark mark q) := by
  unfold takeMark
  dsimp only
  split
  · split <;> exact portMarks_keeps (portMarks_keeps h _ _ _) _ _ _
  · split
    · exact portMarks_keeps h _ _ _
    · exact h

theorem takeOwnFrame_keeps : Keeps p (takeOwnFrame q) := by
  unfold takeOwnFrame
  dsimp only
  split
  · split
    · exact raise_keeps (portMarks_keeps h _ _ _) _
    · exact portMarks_keeps h _ _ _
  · exact h

theorem declareQuiet_keeps : Keeps p (declareQuiet q) := by
  unfold declareQuiet; split
  · exact portMarks_keeps h _ _ _
  · exact tryBegin_keeps (portMarks_keeps h _ _ _)

theorem loseArbitration_keeps (bit : Nat) : Keeps p (loseArbitration bit q) := by
  unfold loseArbitration; split
  · split
    · exact count_keeps (portMarks_keeps (endUnsent_keeps h) _ _ _) _
    · exact h
  · exact h

theorem meetClash_keeps (bit : Nat) : Keeps p (meetClash bit q) := by
  unfold meetClash; split
  · split
    · exact raiseIf_keeps (clashCount_keeps (endUnsent_keeps h) (by rfl) (by exact fun _ => Nat.min_le_left _ _)) _ _
    · exact h
  · exact h

/-! ## Every command -/

theorem asked_keeps {c : Instr} {hd : Header} {handle : Part → Part} (hc : asked c = some (hd, handle)) :
    Keeps p (handle q) := by
  cases c
  case unknownRequest => cases hc; exact takeRequest_keeps h _ _ _
  case status => cases hc; exact requestStatus_keeps h _ _
  case readCountersA | readCountersB | setCounter | freeze | thaw => cases hc; exact monitorRequest_keeps h rfl
  case clearCounters => cases hc; exact requestClearCounters_keeps h _ _
  case readLogA => cases hc; exact requestLogA_keeps h _ _
  case readLogB => cases hc; exact requestLogB_keeps h _ _
  case readRow => cases hc; exact requestRow_keeps h _ _
  case readConfig => cases hc; exact requestConfig_keeps h _ _
  case clearAlarms => cases hc; exact requestClearAlarms_keeps h _ _
  case clearFault => cases hc; exact requestClearFault_keeps h _ _
  case hold => cases hc; exact requestHold_keeps h _ _
  case release => cases hc; exact requestRelease_keeps h _ _
  case resync => cases hc; exact requestResync_keeps h _ _
  case refCheck => cases hc; exact requestRefCheck_keeps h _ _
  case dryStart => cases hc; exact requestDryStart_keeps h _ _
  case dryStop => cases hc; exact requestDryStop_keeps h _ _
  case restart => cases hc; exact requestRestart_keeps h _ _
  all_goals cases hc

theorem localEffect_keeps (c : Instr) : Keeps p (localEffect c q) := by
  cases c <;> first | exact h | skip
  case powerOn => exact powerPart_keeps h
  case resetInput => exact resetPart_keeps (rest_keeps h q.responder q.loader { q.pins with resetInput := true })
  case resetRelease => exact releaseReset_keeps h
  case crystalRunning => exact crystalRuns_keeps h
  case crystalWaitExpiry => exact crystalFails_keeps h
  case configBlockRead m => exact loadBlock_keeps h m
  case startOpenTimeout => exact timeOutStart_keeps h
  case strapChange | openSensorActive | openSensorInactive | closedSensorChange | stopInputRelease => exact rest_keeps h _ _ _
  case quietDeclaration => exact declareQuiet_keeps h
  case frameSent => exact endSent_keeps h
  case arbLost bit => exact loseArbitration_keeps h bit
  case clash bit => exact meetClash_keeps h bit
  case serviceReplyExpiry => exact expireReply_keeps h
  case frameBadCheck bits => exact arrivalOfBits_keeps h bits
  case ownStationFrame => exact takeOwnFrame_keeps h
  case indexEdge now => exact takeEdge_keeps h now
  case settleEnd => exact endSettle_keeps h
  case sampleTick conv => exact takeTick_keeps h conv
  case openRecovery channel conv => exact recover_keeps h channel conv
  case lagEnd lane => exact endLag_keeps h lane
  case dwellLimit => exact endAtLimit_keeps h
  case dryLiftCommand lane => exact dryLift_keeps h lane
  case dryDwellEnd => exact endDryDwell_keeps h
  case closeTimeout => exact timeOutClose_keeps h
  case openTimeout => exact timeOutOpen_keeps h
  case stopInputActivation => exact stopInputOn_keeps h
  case dryPeriodExpiry => exact expireDryPeriod_keeps h
  case refCheckEnd => exact endDueCheck_keeps h
  case regulationPeriodEnd => exact endDuePeriod_keeps h
  case budgetPeriodEnd => exact endDueBudget_keeps h
  case heaterOnTimeEnd lane => exact endHeater_keeps h lane
  case idleTimeout => exact endIdle_keeps h
  case startMarkRefused mark => exact takeMark_keeps h mark

theorem effect_keeps (c : Instr) : Keeps p (effect c q) := by
  cases hasked : asked c with
  | some x =>
    rw [effect_of_asked hasked]
    refine arrival_keeps h _ fun hk => ?_
    unfold addressed; split
    · exact asked_keeps hk hasked
    · exact hk
  | none =>
    cases hframed : framed c with
    | some x =>
      rw [effect_of_framed hasked hframed]
      exact arrival_keeps h _ fun hk => dispatch_keeps hk _ _ _
    | none =>
      rw [effect_of_local hasked hframed]
      exact localEffect_keeps h c

theorem found_keeps (c : Instr) : Keeps p (found c q) := by
  unfold found; split
  · exact h
  · exact ready_keeps h

end

/-- Every step keeps all of the invariants. -/
theorem step_keeps {s t : State} (hstep : step s = .next t) : Keeps s.part t.part := by
  rcases step_cases hstep with rfl | ⟨c, ht⟩
  · exact .refl _
  · rw [ht]; exact finish_keeps (effect_keeps (found_keeps (.refl _) c) c)

/-- Settles O4: H moves with the queue at an accepted index, an alignment, a realignment, a flush and a reset, and nowhere else. -/
theorem stepKeepsTravelQueue : Obligations.StepKeepsTravelQueue := fun _ _ hs hstep => (step_keeps hstep).travel hs

/-- Settles O5: a frame joins by its place or in the place of what it replaces, and the port's other operations only take frames away
or mark them. -/
theorem stepKeepsTransmitQueue : Obligations.StepKeepsTransmitQueue := fun _ _ hs hstep => (step_keeps hstep).transmit hs

/-- Settles O6: each range is kept by every operation that writes its field. -/
theorem stepKeepsRangesAndLimits : Obligations.StepKeepsRangesAndLimits := fun _ _ hstep =>
  have hkeeps := step_keeps hstep
  ⟨hkeeps.readings, hkeeps.draws, hkeeps.counters, hkeeps.counts, hkeeps.log⟩

/-- Settles O7: the platen leaves CLOSING and DWELL by the open command alone, which ends every contact. -/
theorem stepKeepsContactsClosed : Obligations.StepKeepsContactsClosed := fun _ _ hs hstep => (step_keeps hstep).contacts hs

end Sys2Proof.Machine.StepInvariants
end

section
/-! What an event can do to the mode, the platen state, the dry cycle, the start sequence and the reference check (R90, R112 to R131,
R155 to R166, R200), said once as moves of a small view of the part; O11 and O12 are read off the moves. -/

namespace Sys2Proof.Machine.StationMoves

open Effects

/-! ## The view and its moves -/

/-- What the rules of O11 and O12 speak of; `timing` says that the open timer runs, `checking` that a reference check does. -/
@[ext] structure View where
  mode : Mode
  platen : Platen
  dry : Bool
  timing : Bool
  phase : StartPhase
  checking : Bool
  converterFault : Bool

def view (p : Part) : View :=
  { mode := p.control.mode, platen := p.sequencer.platen, dry := p.sequencer.dry.isSome, timing := p.sequencer.openTimer.isSome,
    phase := p.loader.phase, checking := p.sampling.check.isSome, converterFault := p.sampling.converterFault }

/-- The open command, where the platen is closed or closing; else as it is. -/
def View.opening (v : View) : View := if closing v.platen then { v with platen := .opening, timing := true } else v

/-- A dry cycle is cut: SETTLE goes back to OPEN, CLOSING and DWELL take the open command (R130). -/
def View.cut (v : View) : View :=
  if v.platen = .settle then { v with platen := .opened, dry := false } else { v.opening with dry := false }

/-- A dry abort (R130). -/
def View.aborted (v : View) : View := { (if v.dry then v.cut else v) with mode := .hold }

/-- The entry to FAULT (R126, R164); in FAULT a further fault moves nothing (R165). -/
def View.faulted (v : View) : View :=
  if v.mode = .fault then v else { (if v.dry then v.cut else v.opening) with mode := .fault }

/-- A reset (R131, R154, R171, R194): the start sequence begun, or the part held. -/
def resetView (phase : StartPhase) : View :=
  { mode := .start, platen := .opening, dry := false, timing := false, phase := phase, checking := false, converterFault := false }

/-- One move that can come about anywhere within an event. -/
inductive Move : View → View → Prop
  | stop (v : View) : v.mode = .run → Move v { v with mode := .hold }
  | goOn (v : View) : v.mode = .hold → Move v { v with mode := .run }
  | align (v : View) (m : Mode) : v.mode = .seek → m = .run ∨ m = .hold → Move v { v with mode := m }
  | resync (v : View) : v.mode = .run ∨ v.mode = .hold → v.platen = .opened → Move v { v with mode := .seek }
  | clearFault (v : View) : v.mode = .fault → v.converterFault = false → Move v { v with mode := .seek }
  | startDry (v : View) : v.mode = .hold → v.platen = .opened → Move v { v with mode := .dry, platen := .settle, dry := true }
  | beginDry (v : View) : v.mode = .dry → v.platen = .opened → Move v { v with platen := .settle, dry := true }
  | closeDry (v : View) : v.platen = .settle → v.dry = true → Move v { v with platen := .closing }
  | leaveDry (v : View) : v.platen = .settle → v.dry = true → Move v { v with platen := .opened, dry := false }
  | endDry (v : View) : closing v.platen = false → Move v { v with dry := false }
  | abort (v : View) : v.mode = .dry → Move v v.aborted
  | fault (v : View) : v.phase = .failed ∨ v.mode ≠ .start ∨ v.timing = true → Move v v.faulted
  | checkFault (v : View) : v.checking = true →
      Move v
        { v with
          checking := false, converterFault := true,
          phase := if v.phase = StartPhase.checking then StartPhase.failed else v.phase }.faulted
  | opens (v : View) : Move v v.opening
  | dwell (v : View) : v.platen = .closing → Move v { v with platen := .dwell }
  | back (v : View) : v.platen = .opened ∨ v.platen = .settle → Move v { v with platen := .opened }
  | arrive (v : View) : v.platen = .opening → Move v { v with platen := .opened, timing := false }
  | timeOut (v : View) : Move v { v with timing := false }
  | complete (v : View) : v.phase = .waiting ∨ v.phase = .checking → Move v { v with phase := .complete, mode := .seek }
  | wait (v : View) : v.phase = .checking → v.checking = false → Move v { v with phase := .waiting }
  | fail (v : View) : v.phase = .waiting → Move v { v with phase := .failed }
  | startCheck (v : View) : v.mode = .seek ∨ v.mode = .hold → Move v { v with checking := true }
  | endCheck (v : View) : Move v { v with checking := false }
  | reset (v : View) (phase : StartPhase) : phase = .off ∨ phase = .crystal → Move v (resetView phase)

/-- Moves one after the other. -/
abbrev Moves : View → View → Prop := Relation.ReflTransGen Move

/-- A move that only a command's own effect takes, and takes last: a step of the start sequence (R195 to R200), or the settle of a row
(R114, R115). -/
inductive LastMove : View → View → Prop
  | release (v : View) : v.phase = .off → LastMove v { v with phase := .crystal }
  | clock (v : View) : v.phase = .crystal → LastMove v { v with phase := .reading }
  | bad (v : View) : v.phase = .reading → LastMove v { v with phase := .configBad }
  | load (v : View) : v.phase = .reading → LastMove v { v with phase := .checking, checking := true }
  | settle (v : View) (x : Platen) : v.mode = .run → v.platen = .opened ∨ v.platen = .settle → LastMove v { v with platen := x }
  | close (v : View) : v.platen = .settle → modeHoldsOff v.mode = false → LastMove v { v with platen := .closing }

/-! ## The open command, a cut, an abort and a fault, field by field -/

theorem View.opening_of_open {v : View} (hopen : closing v.platen = false) : v.opening = v := by
  unfold View.opening; rw [hopen]; rfl

theorem View.opening_leaves (v : View) :
    v.opening.mode = v.mode ∧ v.opening.dry = v.dry ∧ v.opening.phase = v.phase ∧ v.opening.checking = v.checking ∧
      v.opening.converterFault = v.converterFault := by
  unfold View.opening; split <;> exact ⟨rfl, rfl, rfl, rfl, rfl⟩

theorem View.opening_open (v : View) : closing v.opening.platen = false := by
  unfold View.opening; split
  · rfl
  next hopen => exact Bool.eq_false_of_not_eq_true hopen

theorem View.opening_settle {v : View} (hsettle : v.opening.platen = .settle) : v.platen = .settle := by
  unfold View.opening at hsettle; split at hsettle
  · exact Platen.noConfusion hsettle
  · exact hsettle

theorem View.cut_leaves (v : View) :
    v.cut.mode = v.mode ∧ v.cut.dry = false ∧ v.cut.phase = v.phase ∧ v.cut.checking = v.checking ∧
      v.cut.converterFault = v.converterFault ∧ closing v.cut.platen = false := by
  obtain ⟨hmode, -, hphase, hchecking, hfault⟩ := v.opening_leaves
  unfold View.cut; split
  · exact ⟨rfl, rfl, rfl, rfl, rfl, rfl⟩
  · exact ⟨hmode, rfl, hphase, hchecking, hfault, v.opening_open⟩

/-- A dry abort ends in HOLD with no dry cycle; the platen is as it was, or open (R130). -/
theorem View.aborted_leaves (v : View) :
    v.aborted.mode = .hold ∧ v.aborted.dry = false ∧ v.aborted.phase = v.phase ∧ v.aborted.checking = v.checking ∧
      v.aborted.converterFault = v.converterFault ∧ (v.dry = true → closing v.aborted.platen = false) ∧
      (v.dry = false → v.aborted.platen = v.platen ∧ v.aborted.timing = v.timing) := by
  obtain ⟨-, hdry, hphase, hchecking, hfault, hopen⟩ := v.cut_leaves
  unfold View.aborted
  cases hd : v.dry
  · exact ⟨rfl, hd, rfl, rfl, rfl, Bool.noConfusion, fun _ => ⟨rfl, rfl⟩⟩
  · exact ⟨rfl, hdry, hphase, hchecking, hfault, fun _ => hopen, Bool.noConfusion⟩

theorem View.faulted_of_fault {v : View} (hmode : v.mode = .fault) : v.faulted = v := if_pos hmode

/-- A first fault ends in FAULT with the platen open or opening, and no dry cycle (R126, R164). -/
theorem View.faulted_leaves {v : View} (hmode : v.mode ≠ .fault) :
    v.faulted.mode = .fault ∧ v.faulted.dry = false ∧ v.faulted.phase = v.phase ∧ closing v.faulted.platen = false := by
  unfold View.faulted
  rw [if_neg hmode]
  cases hd : v.dry
  · exact ⟨rfl, v.opening_leaves.2.1.trans hd, v.opening_leaves.2.2.1, v.opening_open⟩
  · obtain ⟨-, hdry, hphase, -, -, hopen⟩ := v.cut_leaves
    exact ⟨rfl, hdry, hphase, hopen⟩

/-- Which states of the platen are closed or closing, state by state. -/
theorem closing_eqs :
    closing .opened = false ∧ closing .settle = false ∧ closing .closing = true ∧ closing .dwell = true ∧ closing .opening = false :=
  ⟨rfl, rfl, rfl, rfl, rfl⟩

/-! ## Operations that leave the view -/

variable (q : Part)

@[simp] theorem view_raise (a : Alarm) : view (raise a q) = view q := by simp [view]
@[simp] theorem view_raiseIf (b : Bool) (a : Alarm) : view (raiseIf b a q) = view q := by simp [view]
@[simp] theorem view_count (e : Event) : view (count e q) = view q := by simp [view]
@[simp] theorem view_countTimes (e : Event) (k : Nat) : view (countTimes e k q) = view q := by
  obtain ⟨-, -, hsampling, -, hsequencer, -, hcontrol, -, -, hloader, -⟩ := countTimes_leaves q e k
  simp only [view, hsampling, hsequencer, hcontrol, hloader]
@[simp] theorem view_join (f : TxFrame) : view (join f q) = view q := by simp [view]
@[simp] theorem view_send (b : FrameBody) : view (send b q) = view q := by simp [view]
@[simp] theorem view_reply (h : Header) (code : Byte) (status : ReplyStatus) (data : List Byte) :
    view (reply h code status data q) = view q := by simp [view]
@[simp] theorem view_setLineStop : view (setLineStop q) = view q := by simp [view]
@[simp] theorem view_clearLineStop : view (clearLineStop q) = view q := by simp [view]
@[simp] theorem view_logCycle (tag : Tag) (dry aborted forced : Bool) : view (logCycle tag dry aborted forced q) = view q := by
  simp [view]
@[simp] theorem view_concludeHead (pt : ConclusionPoint) : view (concludeHead pt q) = view q := by simp [view]
@[simp] theorem view_freezeHead : view (freezeHead q) = view q := by simp [view]
@[simp] theorem view_noClose : view (noClose q) = view q := by simp [view]
@[simp] theorem view_applyPending : view (applyPending q) = view q := by simp [view]
@[simp] theorem view_markHeaters : view (markHeaters q) = view q := by simp [view]
@[simp] theorem view_answerCheck : view (answerCheck q) = view q := by simp [view]
@[simp] theorem view_endDuePeriod : view (endDuePeriod q) = view q := by simp [view]
@[simp] theorem view_endHeaters : view (endHeaters q) = view q := by simp [view]
@[simp] theorem view_endHeater (lane : Nat) : view (endHeater lane q) = view q := by simp [view]
@[simp] theorem view_endIdle : view (endIdle q) = view q := by simp [view]
@[simp] theorem view_dryLifts : view (dryLifts q) = view q := by simp [view]
@[simp] theorem view_dryLift (lane : Nat) : view (dryLift lane q) = view q := by simp [view]
@[simp] theorem view_dwellSample : view (dwellSample q) = view q := by simp [view]
@[simp] theorem view_failClosing : view (failClosing q) = view q := by simp [view]
@[simp] theorem view_drive : view (drive q) = view q := by simp [view]
@[simp] theorem view_tryBegin : view (tryBegin q) = view q := by simp [view]
@[simp] theorem view_endSent : view (endSent q) = view q := by simp [view]
@[simp] theorem view_endUnsent : view (endUnsent q) = view q := by simp [view]
@[simp] theorem view_expireReply : view (expireReply q) = view q := by simp [view]
@[simp] theorem view_takeRowVerdict (h : Header) (payload : List Byte) : view (takeRowVerdict h payload q) = view q := by simp [view]
@[simp] theorem view_takeSealReport (h : Header) (payload : List Byte) : view (takeSealReport h payload q) = view q := by simp [view]
@[simp] theorem view_takeVoidNotice (h : Header) (payload : List Byte) : view (takeVoidNotice h payload q) = view q := by simp [view]
@[simp] theorem view_takeDrawNotice (h : Header) (payload : List Byte) : view (takeDrawNotice h payload q) = view q := by simp [view]
@[simp] theorem view_takeSkew (t : Tag) (d : Int) : view (takeSkew t d q) = view q := by simp [view]
@[simp] theorem view_flush (cause : VoidCause) : view (flush cause q) = view q := by simp [view]
@[simp] theorem view_advanceQueue (t : Tag) : view (advanceQueue t q) = view q := by simp [view]
@[simp] theorem view_alignAt (t : Tag) : view (alignAt t q) = view q := by simp [view]
@[simp] theorem view_lineBusy : view (lineBusy q) = view q := rfl
@[simp] theorem view_endReception : view (endReception q) = view q := rfl
@[simp] theorem view_startReception : view (startReception q) = view q := rfl
@[simp] theorem view_awaitQuiet : view (awaitQuiet q) = view q := rfl
@[simp] theorem view_clearChatter : view (clearChatter q) = view q := rfl
@[simp] theorem view_setOpenSensor (b : Bool) : view (setOpenSensor b q) = view q := rfl

/-- The clearing of flags, a receiver's wait and the other writes of fields that the view does not hold. -/
theorem view_of_fields {r : Part} (hcontrol : r.control.mode = q.control.mode) (hsequencer : r.sequencer = q.sequencer)
    (hloader : r.loader = q.loader) (hsampling : r.sampling = q.sampling) : view r = view q := by
  simp only [view, hcontrol, hsequencer, hloader, hsampling]

/-! ## Operations that move the view, as functions of it -/

@[simp] theorem view_setMode (m : Mode) : view (setMode m q) = { view q with mode := m } := by
  unfold setMode sequencerOnMode; dsimp only; split <;> rfl

@[simp] theorem view_backToOpen : view (backToOpen q) = { view q with platen := .opened } := rfl
@[simp] theorem view_platenOpened : view (platenOpened q) = { view q with platen := .opened, timing := false } := rfl

@[simp] theorem view_closeCommand (limit : Nat) (pressed : Nat → Bool) (aims : Nat → Nat) :
    view (closeCommand limit pressed aims q) = { view q with platen := .closing } := rfl

theorem view_openCommand (hclosing : closing q.sequencer.platen = true) : view (openCommand q) = (view q).opening := by
  rw [View.opening, if_pos (show closing (view q).platen = true from hclosing)]; rfl

@[simp] theorem view_endDry (aborted forced : Bool) : view (endDry aborted forced q) = { view q with dry := false } := by
  unfold endDry
  dsimp only
  split
  next hnone => simp [view, hnone]
  · split
    · rw [view_logCycle]; rfl
    · rfl

theorem view_cutDry (forced : Bool) : view (cutDry forced q) = (view q).cut := by
  unfold cutDry View.cut View.opening
  cases hplaten : q.sequencer.platen <;> simp only [view_backToOpen, view_endDry]
  case closing | dwell => rw [view_openCommand q (by rw [hplaten]; rfl)]; simp [view, hplaten, View.opening, closing]
  all_goals simp [view, hplaten, closing]

theorem view_abortDry (forced : Bool) : view (abortDry forced q) = (view q).aborted := by
  unfold abortDry View.aborted
  cases hdry : q.sequencer.dry.isSome with
  | true => rw [if_pos rfl, if_pos (show (view q).dry = true from hdry), view_setMode, view_cutDry q forced]
  | false =>
    rw [if_neg Bool.false_ne_true, if_neg (show ¬(view q).dry = true by rw [show (view q).dry = false from hdry]; decide), view_setMode]

theorem view_faultSequencer :
    view (faultSequencer q) = if (view q).dry then (view q).cut else (view q).opening := by
  unfold faultSequencer
  cases hdry : q.sequencer.dry.isSome with
  | true => rw [if_pos rfl, if_pos (show (view q).dry = true from hdry), view_cutDry q false]
  | false =>
    rw [if_neg Bool.false_ne_true, if_neg (show ¬(view q).dry = true by rw [show (view q).dry = false from hdry]; decide)]
    cases hplaten : q.sequencer.platen
    case closing | dwell => exact view_openCommand _ (by rw [hplaten]; rfl)
    all_goals exact (if_neg (by rw [show (view q).platen = _ from hplaten]; decide)).symm

theorem view_takeFault (code : Nat) : view (takeFault code q) = (view q).faulted := by
  unfold takeFault View.faulted
  dsimp only
  by_cases hmode : q.control.mode = .fault
  · rw [if_pos hmode, if_pos (show (view q).mode = .fault from hmode)]; rfl
  · rw [if_neg hmode, if_neg (show ¬(view q).mode = .fault from hmode), view_faultSequencer]
    have hsent (r : Part) : view { r with regulator := heatersOff r.regulator } = view r := rfl
    have hrecord : view { q with control := { q.control with fault := firstFault code q.tracker } } = view q := rfl
    rw [hsent, view_send, view_setMode, hrecord]
    unfold View.cut View.opening
    dsimp only
    repeat' split
    all_goals rfl

/-- An activation of the stop input in SEEK changes no mode (R158, R160). -/
theorem view_activateStop (hmode : q.control.mode ≠ .run) : view (activateStop q) = view q := by
  unfold activateStop stopToHold
  rw [if_neg (by simpa using hmode)]; simp

@[simp] theorem view_completeStart : view (completeStart q) = { view q with phase := .complete, mode := .seek } := by
  unfold completeStart
  dsimp only
  split
  · rw [view_activateStop _ (by simp [setMode]), view_setMode]; rfl
  · rw [view_setMode]; rfl

@[simp] theorem view_concludeArrival : view (concludeArrival q) = { view q with dry := false } := by
  unfold concludeArrival
  split
  · exact view_endDry q false false
  next hnone =>
    have hdry : view q = { view q with dry := false } := by
      ext <;> first | rfl | exact Bool.eq_false_of_not_eq_true hnone
    split
    · rw [view_concludeHead]; exact hdry
    · exact hdry

theorem view_resetPart : view (resetPart q) = resetView .off := rfl

theorem view_beginStart (hq : view q = resetView .off) :
    view (beginStart q) = resetView .off ∨ view (beginStart q) = resetView .crystal := by
  unfold beginStart
  split
  · exact .inl hq
  · refine .inr ?_
    show { view q with phase := .crystal } = _
    rw [hq]; rfl

/-! ## Operations as moves: `v` is a view before, `q` what the part has become so far -/

variable {q} {v : View} (h : Moves v (view q))

section
include h

theorem moves_of_view {r : Part} (hview : view r = view q) : Moves v (view r) := hview ▸ h

theorem moves_tail {r : Part} (hmove : Move (view q) (view r)) : Moves v (view r) := h.tail hmove

theorem stop_moves (hmode : q.control.mode = .run) : Moves v (view (setMode .hold q)) :=
  moves_tail h (view_setMode q _ ▸ .stop _ hmode)

theorem stopToHold_moves : Moves v (view (stopToHold q)) := by
  unfold stopToHold; split
  next hmode => exact stop_moves (q := { q with tracker := { q.tracker with quietCount := 0 } }) h hmode
  · exact h

theorem runToHold_moves : Moves v (view (runToHold q)) := by
  unfold runToHold; split
  next hmode => exact stop_moves h hmode
  · exact h

theorem holdToRun_moves : Moves v (view (holdToRun q)) := by
  unfold holdToRun; split
  next hhold => exact moves_tail h (view_setMode q _ ▸ .goOn _ hhold.1)
  · exact h

theorem activateStop_moves : Moves v (view (activateStop q)) :=
  stopToHold_moves (moves_of_view h (by simp))

theorem openCommand_moves (hclosing : closing q.sequencer.platen = true) : Moves v (view (openCommand q)) :=
  moves_tail h (view_openCommand q hclosing ▸ .opens _)

theorem abortDry_moves (forced : Bool) (hmode : q.control.mode = .dry) : Moves v (view (abortDry forced q)) :=
  moves_tail h (view_abortDry q forced ▸ .abort _ hmode)

theorem takeFault_moves (code : Nat) (hguard : q.loader.phase = .failed ∨ q.control.mode ≠ .start ∨ q.sequencer.openTimer.isSome = true) :
    Moves v (view (takeFault code q)) := moves_tail h (view_takeFault q code ▸ .fault _ hguard)

theorem settleDry_moves (hplaten : q.sequencer.platen = .settle) (hdry : q.sequencer.dry.isSome = true) :
    Moves v (view (settleDry q)) := by
  unfold settleDry; split
  · exact moves_tail h (view_closeCommand q _ _ _ ▸ .closeDry _ hplaten hdry)
  · exact moves_tail h (.leaveDry (view q) hplaten hdry)

theorem beginDry_moves (hmode : q.control.mode = .dry) (hplaten : q.sequencer.platen = .opened) : Moves v (view (beginDry q)) := by
  have hbegun := h.tail (.beginDry _ hmode hplaten)
  unfold beginDry
  dsimp only
  split
  · exact settleDry_moves (by exact hbegun) rfl rfl
  · exact hbegun

theorem beginDue_moves : Moves v (view (beginDue q)) := by
  unfold beginDue; split
  next hdue => exact beginDry_moves h hdue.2.1 hdue.2.2
  · exact h

theorem completeIfWaiting_moves : Moves v (view (completeIfWaiting q)) := by
  unfold completeIfWaiting; split
  next hwaiting => exact moves_tail h (view_completeStart q ▸ .complete _ (.inl hwaiting))
  · exact h

theorem enterOpen_moves (hplaten : q.sequencer.platen = .opening) : Moves v (view (enterOpen q)) := by
  have hopened : Moves v (view (platenOpened q)) := h.tail (.arrive _ hplaten)
  refine completeIfWaiting_moves (beginDue_moves (moves_of_view ?_ (view_applyPending _)))
  exact moves_tail hopened (view_concludeArrival _ ▸ .endDry _ rfl)

theorem arrive_moves : Moves v (view (arrive q)) := by
  unfold arrive; split
  next hopening => exact enterOpen_moves h hopening.1
  · exact h

theorem reset_moves {r : Part} (hr : view r = resetView .off ∨ view r = resetView .crystal) : Moves v (view r) := by
  rcases hr with hr | hr
  · exact moves_tail h (hr ▸ .reset _ _ (.inl rfl))
  · exact moves_tail h (hr ▸ .reset _ _ (.inr rfl))

theorem restartIfDue_moves : Moves v (view (restartIfDue q)) := by
  unfold restartIfDue; split
  · exact reset_moves h (view_beginStart _ (view_resetPart q))
  · exact h

theorem conclude_moves : Moves v (view (conclude q)) := arrive_moves (restartIfDue_moves (arrive_moves h))

theorem finish_moves : Moves v (view (finish q)) := moves_of_view (conclude_moves h) (view_drive _)

/-! ## Checks, ticks and what is due -/

theorem startAfterCheck_moves {r : CheckResult} (hr : r ≠ .fault) (hcheck : q.sampling.check = none) :
    Moves v (view (startAfterCheck r q)) := by
  unfold startAfterCheck
  split
  next hphase =>
    split
    · exact absurd rfl hr
    · split
      · exact moves_tail h (view_completeStart q ▸ .complete _ (.inr hphase))
      · exact h.tail (.wait _ hphase (by simp [view, hcheck]))
  · exact h

/-- A check's end moves nothing but the check where it passes or drifts; a converter fault is an entry to FAULT (R87 to R91). -/
theorem endCheck_moves : Moves v (view (endCheck q)) := by
  unfold endCheck
  dsimp only
  split
  · exact h
  next k hcheck =>
    rw [view_answerCheck]
    generalize checkResult (cfg q).refTol (deviation q.sampling k) = r
    by_cases hr : r = .fault
    · subst hr
      rw [if_pos rfl, view_markHeaters, view_takeFault]
      refine h.tail ?_
      have hmove := Move.checkFault (view q) (by simp [view, hcheck])
      convert hmove using 1
      congr 1
      unfold startAfterCheck
      simp only [raiseIf_loader, view]
      split
      next hphase => simp [afterCheck, hphase]
      next hphase => simp [afterCheck, hphase]
    · rw [if_neg hr]
      refine startAfterCheck_moves ?_ hr (by cases r <;> rfl)
      refine moves_of_view (q := { q with sampling := afterCheck r q.sampling }) ?_ (view_raiseIf _ _ _)
      cases r
      case fault => exact absurd rfl hr
      all_goals exact h.tail (.endCheck _)

theorem endDueCheck_moves : Moves v (view (endDueCheck q)) := by
  unfold endDueCheck; split
  · exact endCheck_moves h
  · exact h

theorem openIfEnded_moves (hclosing : closing q.sequencer.platen = true) : Moves v (view (openIfEnded q)) := by
  unfold openIfEnded; split
  · exact openCommand_moves h hclosing
  · exact h

theorem openAfterLag_moves : Moves v (view (openAfterLag q)) := by
  unfold openAfterLag; split
  next hdwell => exact openIfEnded_moves h (by rw [hdwell]; rfl)
  · exact h

theorem endLags_moves : Moves v (view (endLags q)) := by
  unfold endLags; split
  · exact openAfterLag_moves (by exact h)
  · exact h

theorem endLag_moves (lane : Nat) : Moves v (view (endLag lane q)) := by
  unfold endLag; split
  · exact openAfterLag_moves (by exact h)
  · exact h

theorem endAtLimit_moves : Moves v (view (endAtLimit q)) := by
  unfold endAtLimit; split
  next hdue =>
    simp only [limitDue, Bool.and_eq_true, beq_iff_eq, and_assoc] at hdue
    exact openCommand_moves h (by rw [hdue.1]; rfl)
  · exact h

theorem endDryDwell_moves : Moves v (view (endDryDwell q)) := by
  unfold endDryDwell; split
  next hdue =>
    simp only [dryEndDue, Bool.and_eq_true, beq_iff_eq, and_assoc] at hdue
    exact openCommand_moves h (by rw [hdue.1]; rfl)
  · exact h

theorem settle_moves : Moves v (view (settle q)) := by
  unfold settle
  rw [view_endDuePeriod, view_endHeaters, view_endIdle]
  refine restartIfDue_moves (endDueCheck_moves (endDryDwell_moves ?_))
  rw [view_dryLifts]
  exact endAtLimit_moves (endLags_moves h)

theorem ready_moves : Moves v (view (ready q)) := conclude_moves (settle_moves h)

theorem cycleTick_moves : Moves v (view (cycleTick q)) := by
  unfold cycleTick
  split
  next hplaten =>
    split
    · refine openIfEnded_moves (moves_of_view (q := enterDwell q) ?_ (view_dwellSample _)) rfl
      exact h.tail (.dwell _ hplaten)
    · exact openIfEnded_moves (moves_of_view h (view_failClosing q)) (by simp [hplaten, closing])
  next hplaten => exact openIfEnded_moves (moves_of_view h (view_dwellSample q)) (by simp [hplaten, closing])
  · exact h

end

/-- A tick keeps a check that runs, and no tick starts or ends one (R86). -/
theorem view_takeConversions (conv : Conversions) (q : Part) : view (cutHeaters (takeConversions conv q)) = view q := by
  unfold takeConversions sampleUnit
  split
  next hcheck => simp [view, cutHeaters]
  next hcheck => simp [view, cutHeaters, hcheck]

section
include h

theorem tick_moves (conv : Conversions) : Moves v (view (tick conv q)) := by
  have hcycle : Moves v (view (cycleTick (cutHeaters (takeConversions conv q)))) :=
    cycleTick_moves (moves_of_view h (view_takeConversions conv q))
  unfold tick
  dsimp only
  rw [view_markHeaters]
  refine moves_of_view hcycle ?_
  split <;> simp [view]

theorem takeTick_moves (conv : Conversions) : Moves v (view (takeTick conv q)) := by
  unfold takeTick; split
  · exact tick_moves h conv
  · exact h

/-! ## The index, timers and pins -/

theorem openIfClosed_moves : Moves v (view (openIfClosed q)) := by
  unfold openIfClosed; split
  next hplaten => exact openCommand_moves h (by rw [hplaten]; rfl)
  next hplaten => exact openCommand_moves h (by rw [hplaten]; rfl)
  · exact h

end

theorem openIfClosed_mode (q : Part) : (openIfClosed q).control.mode = q.control.mode := by
  unfold openIfClosed; split <;> simp

section
include h

theorem forcedIndex_moves (hmode : q.control.mode ≠ .start) : Moves v (view (forcedIndex q)) := by
  unfold forcedIndex
  dsimp only
  split
  next hdry =>
    refine takeFault_moves (moves_of_view (openIfClosed_moves (abortDry_moves h true hdry)) (view_raise _ _)) 2 (.inr (.inl ?_))
    rw [raise_mode, openIfClosed_mode]; exact Mode.noConfusion
  · refine takeFault_moves (moves_of_view (openIfClosed_moves h) (view_raise _ _)) 2 (.inr (.inl ?_))
    rw [raise_mode, openIfClosed_mode]; exact hmode

end

/-- Moves, and at their end perhaps one that only a command's own effect takes. -/
def Effected (v w : View) : Prop := ∃ u, Moves v u ∧ (w = u ∨ LastMove u w)

theorem Effected.of_moves {v w : View} (h : Moves v w) : Effected v w := ⟨w, h, .inl rfl⟩

theorem Effected.of_last {v w : View} (h : LastMove v w) : Effected v w := ⟨v, .refl, .inr h⟩

/-- In HOLD, DRY and FAULT a plan freeze holds every lane off (R65). -/
theorem freezeRecord_not_pressed {p : Part} (hheld : modeHoldsOff p.control.mode = true) (r : RowRecord) :
    (freezeRecord p r).lanes.any presses = false := by
  rw [List.any_eq_false]
  refine forall_mapIndexed fun i e _ => ?_
  simp [hheld, planLane, holdOffReason, presses]

theorem headRecord_freezeHead {p : Part} {r : RowRecord} (hr : headRecord (freezeHead p) = some r) :
    ∃ r₀, r = freezeRecord p r₀ := by
  unfold freezeHead updateHead headRecord at hr
  cases hrecords : p.tracker.records with
  | nil => simp [hrecords] at hr
  | cons x xs => exact ⟨x, by simpa [hrecords] using hr.symm⟩

/-- The settle end of a row goes back to OPEN, or closes in a mode that holds no lane off (R65, R115). -/
theorem view_settleRow (q : Part) :
    view (settleRow q) = { view q with platen := .opened } ∨
      modeHoldsOff q.control.mode = false ∧ view (settleRow q) = { view q with platen := .closing } := by
  unfold settleRow
  dsimp only
  split
  · exact .inl (by rw [view_backToOpen, view_freezeHead])
  next r hr =>
    split
    next hpress =>
      refine .inr ⟨?_, by rw [view_closeCommand, view_freezeHead]⟩
      obtain ⟨r₀, rfl⟩ := headRecord_freezeHead hr
      by_contra hheld
      rw [freezeRecord_not_pressed (by simpa using hheld)] at hpress
      exact Bool.false_ne_true hpress
    · exact .inl (by rw [view_backToOpen, view_concludeHead, view_noClose, view_freezeHead])

section
include h

theorem tellSequencer_effected (hmode : q.control.mode ≠ .start) : Effected v (view (tellSequencer q)) := by
  unfold tellSequencer
  split
  · exact .of_moves (forcedIndex_moves h hmode)
  next haway =>
    have hrest : q.sequencer.platen = .opened ∨ q.sequencer.platen = .settle := by
      cases hplaten : q.sequencer.platen <;> simp_all [platenAway]
    split
    next hrun =>
      have hsettled (x : Platen) : LastMove (view q) { view q with platen := x } := .settle _ x hrun hrest
      refine ⟨_, h, .inr ?_⟩
      unfold beginSettle
      dsimp only
      split
      · rcases view_settleRow { q with sequencer := { q.sequencer with platen := .settle, settleTimer := some (cfg q).settle } }
          with hview | ⟨-, hview⟩ <;> rw [hview] <;> exact hsettled _
      · exact hsettled .settle
    next hdry => exact .of_moves (abortDry_moves h false hdry)
    · exact .of_moves (h.tail (.back _ hrest))

theorem Effected.of_view {w : View} (hview : view q = w) : Effected v w := hview ▸ .of_moves h

theorem acceptIndex_effected (t : Nat) (hmode : q.control.mode ≠ .start) : Effected v (view (acceptIndex t q)) := by
  unfold acceptIndex
  dsimp only
  rw [view_clearChatter]
  have hbefore (r : Part) : view (countQuiet (restartIdle (ageQueue r))) = view r := by simp [view, countQuiet]
  have hcounted : view (countQuiet (restartIdle (ageQueue (count .index { q with tracker := recordEdge t q.tracker })))) = view q := by
    rw [hbefore, view_count]; rfl
  generalize countQuiet (restartIdle (ageQueue (count .index { q with tracker := recordEdge t q.tracker }))) = r at hcounted
  unfold advanceRows
  split
  · unfold advanceCandidate; split <;> exact .of_moves (hcounted ▸ h)
  next head _ =>
    refine tellSequencer_effected (moves_of_view h ?_) ?_
    · rw [view_advanceQueue, view_concludeHead, hcounted]
    · show (view (advanceQueue head (concludeHead (indexPoint r) r))).mode ≠ .start
      rw [view_advanceQueue, view_concludeHead, hcounted]; exact hmode

theorem takeEdge_effected (now : Nat) : Effected v (view (takeEdge now q)) := by
  unfold takeEdge
  dsimp only
  split
  · exact .of_moves h
  next hmode =>
    split
    · exact .of_moves (moves_of_view h (view_count _ _))
    · exact acceptIndex_effected (q := readClock now q) h _ hmode

theorem endSettle_effected : Effected v (view (endSettle q)) := by
  unfold endSettle; split
  next hdue =>
    split
    next hdry => exact .of_moves (beginDue_moves (settleDry_moves h hdue.1 hdry))
    · rcases view_settleRow q with hview | ⟨hheld, hview⟩ <;> rw [hview]
      · exact .of_moves (h.tail (.back _ (.inr hdue.1)))
      · exact ⟨_, h, .inr (.close _ hdue.1 hheld)⟩
  · exact .of_moves h

theorem timeOutClose_moves : Moves v (view (timeOutClose q)) := by
  unfold timeOutClose; split
  next hdue =>
    have hopened := openCommand_moves h (by rw [hdue.1]; rfl)
    have hconcluded : view (concludeTimeout (openCommand q)) = view (openCommand q) := by
      unfold concludeTimeout; split
      · exact view_concludeHead _ _
      next cycle hcycle => rw [view_logCycle]; simp [view, hcycle]
    have hraised : ∀ n : Nat, view { raise .closeTimeout (concludeTimeout (openCommand q)) with
        sequencer := { (raise .closeTimeout (concludeTimeout (openCommand q))).sequencer with closeTimeouts := n } } =
          view (openCommand q) := fun n => hconcluded
    unfold countTimeout
    dsimp only
    split
    · refine takeFault_moves (moves_of_view hopened (hraised _)) 3 (.inr (.inr ?_))
      exact congrArg View.timing hconcluded
    · exact moves_of_view hopened (hraised _)
  · exact h

theorem timeOutOpen_moves : Moves v (view (timeOutOpen q)) := by
  unfold timeOutOpen; split
  next hdue =>
    rw [view_takeFault, view_raise]
    refine (h.tail (.fault _ (.inr (.inr hdue.2)))).tail ?_
    have hstopped := Move.timeOut (view q).faulted
    convert hstopped using 1
    have hplaten : (view q).platen = .opening := hdue.1
    unfold View.faulted View.cut View.opening
    simp only [view, hdue.1, closing, reduceCtorEq, if_false, Bool.false_eq_true]
    split
    · rfl
    · split <;> rfl
  · exact h

theorem expireDryPeriod_moves : Moves v (view (expireDryPeriod q)) := by
  unfold expireDryPeriod; split
  next hdue =>
    split
    next hopened => exact beginDry_moves h hdue.1 hopened
    · exact h
  · exact h

theorem stopInputOn_moves : Moves v (view (stopInputOn q)) := by
  unfold stopInputOn
  dsimp only
  split
  · exact h
  · split
    · exact h
    · exact activateStop_moves (by exact h)

theorem timeOutStart_moves : Moves v (view (timeOutStart q)) := by
  unfold timeOutStart; split
  next hwaiting =>
    have hfailed := h.tail (.fail _ hwaiting)
    exact takeFault_moves (q := { q with loader := { q.loader with phase := .failed, waitTimer := none } }) hfailed 5 (.inl rfl)
  · exact h

/-! ## Requests and reception -/

theorem request_moves {hd : Header} {code : Byte} {size : Nat} {args : List Byte} {accepted : Part → Bool} {act : Part → Part}
    (hact : accepted q = true → Moves v (view (act q))) : Moves v (view (request hd code size args accepted act q)) := by
  unfold request; split
  · split
    next haccepted => exact hact haccepted
    · exact moves_of_view h (view_reply ..)
  · exact moves_of_view h (view_reply ..)

theorem reply_moves (hd : Header) (code : Byte) (status : ReplyStatus) (data : List Byte) :
    Moves v (view (reply hd code status data q)) := moves_of_view h (view_reply ..)

/-- A request whose act ends in a reply on a part of the same view. -/
theorem quietRequest_moves {hd : Header} {code : Byte} {size : Nat} {args : List Byte} {accepted : Part → Bool} {act : Part → Part}
    (hview : view (act q) = view q) : Moves v (view (request hd code size args accepted act q)) :=
  request_moves h fun _ => moves_of_view h hview

theorem flushToSeek_moves (cause : VoidCause)
    (hguard : (q.control.mode = .run ∨ q.control.mode = .hold) ∧ q.sequencer.platen = .opened ∨
      q.control.mode = .fault ∧ q.sampling.converterFault = false) : Moves v (view (flushToSeek cause q)) := by
  have hflushed (r : Part) : view (flushToSeek cause r) = { view r with mode := .seek } := by
    unfold flushToSeek
    dsimp only
    rw [view_setMode]
    show { view (flush cause r) with mode := .seek } = _
    rw [view_flush]
  rw [hflushed]
  rcases hguard with ⟨hmode, hplaten⟩ | ⟨hmode, hfault⟩
  · exact h.tail (.resync _ hmode hplaten)
  · exact h.tail (.clearFault _ hmode hfault)

theorem requestClearFault_moves (hd : Header) (args : List Byte) : Moves v (view (requestClearFault hd args q)) := by
  refine request_moves h fun haccepted => reply_moves ?_ _ _ _ _
  simp only [clearFaultAccepted, Bool.and_eq_true, beq_iff_eq, Bool.not_eq_true', and_assoc] at haccepted
  obtain ⟨hmode, -, hfault⟩ := haccepted
  exact flushToSeek_moves (by exact h) _ (.inr ⟨hmode, hfault⟩)

theorem requestResync_moves (hd : Header) (args : List Byte) : Moves v (view (requestResync hd args q)) := by
  refine request_moves h fun haccepted => reply_moves ?_ _ _ _ _
  simp only [resyncAccepted, Bool.and_eq_true, Bool.or_eq_true, beq_iff_eq] at haccepted
  exact flushToSeek_moves h _ (.inl haccepted)

theorem requestHold_moves (hd : Header) (args : List Byte) : Moves v (view (requestHold hd args q)) :=
  request_moves h fun _ => reply_moves (runToHold_moves (by exact h)) _ _ _ _

theorem requestRelease_moves (hd : Header) (args : List Byte) : Moves v (view (requestRelease hd args q)) :=
  request_moves h fun _ => reply_moves (holdToRun_moves (by exact h)) _ _ _ _

theorem requestRefCheck_moves (hd : Header) (args : List Byte) : Moves v (view (requestRefCheck hd args q)) := by
  refine request_moves h fun haccepted => ?_
  simp only [refCheckAccepted, Bool.and_eq_true, Bool.or_eq_true, beq_iff_eq, and_assoc] at haccepted
  exact h.tail (.startCheck _ haccepted.1)

theorem requestDryStart_moves (hd : Header) (args : List Byte) : Moves v (view (requestDryStart hd args q)) := by
  refine request_moves h fun haccepted => reply_moves ?_ _ _ _ _
  simp only [dryStartAccepted, Bool.and_eq_true, beq_iff_eq, and_assoc] at haccepted
  obtain ⟨hmode, -, hplaten⟩ := haccepted
  have hstarted := h.tail (.startDry _ hmode hplaten)
  have hbegun : view { setMode .dry q with
      sequencer := { (setMode .dry q).sequencer with
        platen := .settle, settleTimer := some (cfg (setMode .dry q)).settle, dryTimer := some (cfg (setMode .dry q)).dryPeriod,
        dryDue := false, dry := some { tag := (setMode .dry q).tracker.h.getD 0, logged := false } } } =
      { view q with mode := .dry, platen := .settle, dry := true } := rfl
  rw [← hbegun] at hstarted
  unfold beginDry
  dsimp only
  split
  · exact settleDry_moves hstarted rfl rfl
  · exact hstarted

theorem requestDryStop_moves (hd : Header) (args : List Byte) : Moves v (view (requestDryStop hd args q)) := by
  refine request_moves h fun haccepted => reply_moves ?_ _ _ _ _
  exact abortDry_moves h false (eq_of_beq haccepted)

end

theorem view_answerStatus (hd : Header) (q : Part) : view (answerStatus hd q) = view q := by
  unfold answerStatus clearOnStatus; rw [view_reply]; split <;> rfl

theorem view_answerClearAlarms (hd : Header) (args : List Byte) (q : Part) : view (answerClearAlarms hd args q) = view q := by
  unfold answerClearAlarms clearClash; dsimp only; rw [view_reply]; split <;> rfl

theorem view_answerCountersA (hd : Header) (q : Part) : view (answerCountersA hd q) = view q := by
  unfold answerCountersA; rw [view_reply]; rfl

theorem view_answerCountersB (hd : Header) (q : Part) : view (answerCountersB hd q) = view q := by
  unfold answerCountersB; rw [view_reply]; rfl

theorem view_answerSetCounter (hd : Header) (args : List Byte) (q : Part) : view (answerSetCounter hd args q) = view q := by
  unfold answerSetCounter; rw [view_reply]; rfl

/-- FREEZE, THAW and CLEAR COUNTERS answer on a part whose monitor alone is another. -/
theorem view_reply_of_monitor {hd : Header} {code : Byte} {r q : Part} (hr : view r = view q) :
    view (reply hd code .done [] r) = view q := (view_reply ..).trans hr

theorem view_answerLogA (hd : Header) (q : Part) : view (answerLogA hd q) = view q := by
  unfold answerLogA; split <;> exact view_reply ..

theorem view_answerLogB (hd : Header) (q : Part) : view (answerLogB hd q) = view q := by
  unfold answerLogB; split <;> exact view_reply ..

theorem view_answerRow (hd : Header) (args : List Byte) (q : Part) : view (answerRow hd args q) = view q := by
  unfold answerRow; split <;> exact view_reply ..

theorem view_answerConfig (hd : Header) (args : List Byte) (q : Part) : view (answerConfig hd args q) = view q := by
  unfold answerConfig; split <;> exact view_reply ..

section
include h

theorem takeRequest_moves (code : Byte) (hd : Header) (args : List Byte) : Moves v (view (takeRequest code hd args q)) := by
  unfold takeRequest
  split
  · exact quietRequest_moves h (view_answerStatus ..)
  · exact quietRequest_moves h (view_answerCountersA ..)
  · exact quietRequest_moves h (view_answerCountersB ..)
  · exact quietRequest_moves h (view_answerSetCounter ..)
  iterate 3 exact quietRequest_moves h (view_reply_of_monitor rfl)
  · exact quietRequest_moves h (view_answerLogA ..)
  · exact quietRequest_moves h (view_answerLogB ..)
  · exact quietRequest_moves h (view_answerRow ..)
  · exact quietRequest_moves h (view_answerConfig ..)
  · exact quietRequest_moves h (view_answerClearAlarms ..)
  · exact requestClearFault_moves h hd args
  · exact requestHold_moves h hd args
  · exact requestRelease_moves h hd args
  · exact requestResync_moves h hd args
  · exact requestRefCheck_moves h hd args
  · exact requestDryStart_moves h hd args
  · exact requestDryStop_moves h hd args
  · exact quietRequest_moves h (view_join ..)
  · exact reply_moves h _ _ _ _

theorem takeRun_moves : Moves v (view (takeRun q)) := by
  unfold takeRun
  dsimp only
  split <;> split
  next hdry _ => exact abortDry_moves h false hdry
  next hdry _ => exact holdToRun_moves (moves_of_view (abortDry_moves h false hdry) (view_clearLineStop _))
  · exact h
  · exact holdToRun_moves (moves_of_view h (view_clearLineStop _))

theorem takeLineState_moves (payload : List Byte) : Moves v (view (takeLineState payload q)) := by
  unfold takeLineState; split
  · exact moves_of_view h (view_count ..)
  · exact takeRun_moves h
  · exact stopToHold_moves (moves_of_view h (view_setLineStop q))

theorem takeServiceRequest_moves (hd : Header) (payload : List Byte) : Moves v (view (takeServiceRequest hd payload q)) := by
  unfold takeServiceRequest; split
  · split
    · split
      · exact takeRequest_moves h _ _ _
      · exact h
    · exact h
  · exact moves_of_view h (view_count ..)

theorem dispatch_moves (kind : Nat) (hd : Header) (payload : List Byte) : Moves v (view (dispatch kind hd payload q)) := by
  unfold dispatch; split
  · exact takeLineState_moves h _
  · exact moves_of_view h (view_takeRowVerdict ..)
  · exact moves_of_view h (view_takeSealReport ..)
  · exact moves_of_view h (view_takeVoidNotice ..)
  · exact moves_of_view h (view_takeDrawNotice ..)
  · exact takeServiceRequest_moves h _ _
  · exact h
  · exact moves_of_view h (view_count ..)

theorem takeCandidate_moves (i : Tag) (hmode : q.control.mode = .seek) : Moves v (view (takeCandidate i q)) := by
  unfold takeCandidate
  dsimp only
  split
  · unfold enterAligned
    split
    · exact h.tail (view_setMode (alignAt i _) _ ▸ .align _ _ hmode (.inr rfl))
    · exact h.tail (view_setMode (alignAt i _) _ ▸ .align _ _ hmode (.inl rfl))
  · exact h

theorem takeEvidence_moves (hd : Header) : Moves v (view (takeEvidence hd q)) := by
  unfold takeEvidence
  dsimp only
  split
  · exact h
  · split
    · exact moves_of_view h (view_takeSkew ..)
    · split
      next hseek => exact takeCandidate_moves (by exact h) _ hseek
      · exact h

end

/-- The handling of a frame's payload or of a request makes moves alone. -/
def HandlerMoves (handle : Part → Part) : Prop := ∀ {v : View} {q : Part}, Moves v (view q) → Moves v (view (handle q))

section
include h

theorem receive_moves (hd : Header) {handle : Part → Part} (hhandle : HandlerMoves handle) : Moves v (view (receive hd handle q)) := by
  unfold receive; split
  · exact moves_of_view h (view_count ..)
  · split
    · exact moves_of_view h (view_raise ..)
    · exact hhandle (takeEvidence_moves (moves_of_view h (view_count ..)) _)

theorem arrival_moves (hd : Header) {handle : Part → Part} (hhandle : HandlerMoves handle) : Moves v (view (arrival hd handle q)) := by
  unfold arrival; split
  · exact receive_moves (moves_of_view h (view_lineBusy q)) _ hhandle
  · exact h

theorem arrivalOfBits_moves (bits : List Bool) : Moves v (view (arrivalOfBits bits q)) := by
  unfold arrivalOfBits; split
  · have hbusy : Moves v (view (if receiveBits bits = .bad .earlyQuiet then endReception q else lineBusy q)) := by
      split <;> exact h
    unfold takeBits; split
    · exact receive_moves hbusy _ fun hk => dispatch_moves hk _ _ _
    all_goals exact moves_of_view hbusy (by simp)
  · exact h

/-! ## Every command -/

theorem asked_moves {c : Instr} {hd : Header} {handle : Part → Part} (hc : asked c = some (hd, handle)) :
    Moves v (view (handle q)) := by
  cases c
  case unknownRequest => cases hc; exact takeRequest_moves h _ _ _
  case status => cases hc; exact quietRequest_moves h (view_answerStatus ..)
  case readCountersA => cases hc; exact quietRequest_moves h (view_answerCountersA ..)
  case readCountersB => cases hc; exact quietRequest_moves h (view_answerCountersB ..)
  case setCounter => cases hc; exact quietRequest_moves h (view_answerSetCounter ..)
  case freeze | thaw | clearCounters => cases hc; exact quietRequest_moves h (view_reply_of_monitor rfl)
  case readLogA => cases hc; exact quietRequest_moves h (view_answerLogA ..)
  case readLogB => cases hc; exact quietRequest_moves h (view_answerLogB ..)
  case readRow => cases hc; exact quietRequest_moves h (view_answerRow ..)
  case readConfig => cases hc; exact quietRequest_moves h (view_answerConfig ..)
  case clearAlarms => cases hc; exact quietRequest_moves h (view_answerClearAlarms ..)
  case clearFault => cases hc; exact requestClearFault_moves h _ _
  case hold => cases hc; exact requestHold_moves h _ _
  case release => cases hc; exact requestRelease_moves h _ _
  case resync => cases hc; exact requestResync_moves h _ _
  case refCheck => cases hc; exact requestRefCheck_moves h _ _
  case dryStart => cases hc; exact requestDryStart_moves h _ _
  case dryStop => cases hc; exact requestDryStop_moves h _ _
  case restart => cases hc; exact quietRequest_moves h (view_join ..)
  all_goals cases hc

end

theorem crystal_effected {k : ClockSource} (q : Part) (hphase : q.loader.phase = .crystal) : Effected (view q) (view (settleClock k q)) :=
  .of_last (.clock _ hphase)

theorem loadBlock_effected (m : MemoryRead) (q : Part) : Effected (view q) (view (loadBlock m q)) := by
  unfold loadBlock
  dsimp only
  split
  next hreading =>
    split
    · split
      · exact .of_last (.bad _ hreading)
      · refine .of_last ?_
        have hloaded := LastMove.load (view q) hreading
        convert hloaded using 1
        unfold putInForce startCheck
        dsimp only
        simp [view]
    · exact .of_last (.bad _ hreading)
  · exact .of_moves .refl

theorem localEffect_effected (c : Instr) (q : Part) : Effected (view q) (view (localEffect c q)) := by
  have hsame : Moves (view q) (view q) := .refl
  cases c <;> first | exact .of_moves hsame | skip
  case powerOn => exact .of_moves (reset_moves hsame (view_beginStart _ rfl))
  case resetInput => exact .of_moves (reset_moves hsame (.inl rfl))
  case resetRelease =>
    show Effected _ (view (releaseReset q))
    unfold releaseReset
    dsimp only
    split
    next hoff => exact .of_last (.release _ hoff)
    · exact .of_moves hsame
  case crystalRunning =>
    show Effected _ (view (crystalRuns q))
    unfold crystalRuns; split
    next hcrystal => exact crystal_effected q hcrystal
    · exact .of_moves hsame
  case crystalWaitExpiry =>
    show Effected _ (view (crystalFails q))
    unfold crystalFails; split
    next hcrystal => rw [view_raise]; exact crystal_effected q hcrystal
    · exact .of_moves hsame
  case configBlockRead m => exact loadBlock_effected m q
  case startOpenTimeout => exact .of_moves (timeOutStart_moves hsame)
  case quietDeclaration =>
    refine .of_moves (moves_of_view hsame ?_)
    show view (declareQuiet q) = _
    unfold declareQuiet; split
    · rfl
    · rw [view_tryBegin]; rfl
  case frameSent => exact .of_moves (moves_of_view hsame (view_endSent q))
  case arbLost bit =>
    refine .of_moves (moves_of_view hsame ?_)
    show view (loseArbitration bit q) = _
    unfold loseArbitration; repeat' split
    all_goals simp
  case clash bit =>
    refine .of_moves (moves_of_view hsame ?_)
    show view (meetClash bit q) = _
    unfold meetClash; repeat' split
    · exact (view_raiseIf ..).trans (view_endUnsent q)
    all_goals rfl
  case serviceReplyExpiry => exact .of_moves (moves_of_view hsame (view_expireReply q))
  case frameBadCheck bits => exact .of_moves (arrivalOfBits_moves hsame bits)
  case ownStationFrame =>
    refine .of_moves (moves_of_view hsame ?_)
    show view (takeOwnFrame q) = _
    unfold takeOwnFrame; dsimp only; repeat' split
    all_goals rfl
  case indexEdge now => exact takeEdge_effected hsame now
  case settleEnd => exact endSettle_effected hsame
  case sampleTick conv => exact .of_moves (takeTick_moves hsame conv)
  case openRecovery channel conv =>
    refine .of_moves (moves_of_view hsame ?_)
    show view (recover channel conv q) = _
    unfold recover; split <;> rfl
  case lagEnd lane => exact .of_moves (endLag_moves hsame lane)
  case dwellLimit => exact .of_moves (endAtLimit_moves hsame)
  case dryLiftCommand lane => exact .of_moves (moves_of_view hsame (view_dryLift q lane))
  case dryDwellEnd => exact .of_moves (endDryDwell_moves hsame)
  case closeTimeout => exact .of_moves (timeOutClose_moves hsame)
  case openTimeout => exact .of_moves (timeOutOpen_moves hsame)
  case stopInputActivation => exact .of_moves (stopInputOn_moves hsame)
  case dryPeriodExpiry => exact .of_moves (expireDryPeriod_moves hsame)
  case refCheckEnd => exact .of_moves (endDueCheck_moves hsame)
  case regulationPeriodEnd => exact .of_moves (moves_of_view hsame (view_endDuePeriod q))
  case budgetPeriodEnd =>
    refine .of_moves (moves_of_view hsame ?_)
    show view (endDueBudget q) = _
    unfold endDueBudget; split
    · simp [view]
    · rfl
  case heaterOnTimeEnd lane => exact .of_moves (moves_of_view hsame (view_endHeater q lane))
  case idleTimeout => exact .of_moves (moves_of_view hsame (view_endIdle q))
  case startMarkRefused mark =>
    refine .of_moves (moves_of_view hsame ?_)
    show view (takeMark mark q) = _
    unfold takeMark; dsimp only; repeat' split
    all_goals rfl

end Sys2Proof.Machine.StationMoves
end

section
/-! O11 and O12, read off the moves of StationMoves: a predicate of the view that every move keeps is kept by every command. -/

namespace Sys2Proof.Machine.StationRules

open Effects StationMoves

/-- What a command does to the part it finds, as moves. -/
theorem effect_effected (c : Instr) (q : Part) : Effected (view q) (view (effect c q)) := by
  cases hasked : asked c with
  | some x =>
    rw [effect_of_asked hasked]
    refine .of_moves (arrival_moves .refl x.1 fun {v q} hq => ?_)
    unfold addressed; split
    · exact asked_moves hq hasked
    · exact hq
  | none =>
    cases hframed : framed c with
    | some x =>
      rw [effect_of_framed hasked hframed]
      exact .of_moves (arrival_moves .refl x.1 fun hq => dispatch_moves hq _ _ _)
    | none => rw [effect_of_local hasked hframed]; exact localEffect_effected c q

theorem found_moves (c : Instr) (q : Part) : Moves (view q) (view (found c q)) := by
  unfold found; split
  · exact .refl
  · exact ready_moves .refl

/-- The moves of a whole event: what is due, the command's effect, and the end of the event. -/
theorem takes_effected {c : Instr} {s : State} {t : Part} (ht : Takes c s t) :
    ∃ u, Moves (view s.part) u ∧ ∃ e, t = finish e ∧ (view e = u ∨ LastMove u (view e)) := by
  obtain ⟨u, hmoves, hlast⟩ := effect_effected c (found c s.part)
  exact ⟨u, (found_moves c s.part).trans hmoves, _, eq_finish_of_takes ht, hlast⟩

/-- A predicate that every move keeps is kept by moves one after the other. -/
theorem Moves.keep {P : View → Prop} (hmove : ∀ {v w}, Move v w → P v → P w) {v w : View} (h : Moves v w) (hv : P v) : P w := by
  induction h with
  | refl => exact hv
  | tail _ hlast ih => exact hmove hlast ih

/-! ## A dry cycle is in progress only in DRY -/

/-- `DryOnlyInDry` of the view. -/
structure View.DryInDry (v : View) : Prop where
  dry : v.dry = true → v.mode = .dry
  start : v.phase ≠ .complete → v.phase ≠ .failed →
    v.mode = .start ∧ (v.platen = .opened ∨ v.platen = .opening) ∧ v.timing = false ∧ (v.phase ≠ .checking → v.checking = false)

theorem dryOnlyInDry_iff (p : Part) : DryOnlyInDry p ↔ View.DryInDry (view p) := by
  have hnone {α : Type} (o : Option α) : o.isSome = false ↔ o = none := by cases o <;> simp
  have hsome {α : Type} (o : Option α) : o.isSome = true ↔ o ≠ none := by cases o <;> simp
  constructor
  · rintro ⟨hdry, hstart⟩
    refine ⟨fun h => hdry ((hsome _).1 h), fun hc hf => ?_⟩
    obtain ⟨hmode, hplaten, htimer, hcheck⟩ := hstart hc hf
    exact ⟨hmode, hplaten, (hnone _).2 htimer, fun h => (hnone _).2 (hcheck h)⟩
  · rintro ⟨hdry, hstart⟩
    refine ⟨fun h => hdry ((hsome _).2 h), fun hc hf => ?_⟩
    obtain ⟨hmode, hplaten, htimer, hcheck⟩ := hstart hc hf
    exact ⟨hmode, hplaten, (hnone _).1 htimer, fun h => (hnone _).1 (hcheck h)⟩

theorem View.DryInDry.of_over {v : View} (hphase : v.phase = .complete ∨ v.phase = .failed) (hdry : v.dry = true → v.mode = .dry) :
    View.DryInDry v :=
  ⟨hdry, fun hc hf => (hphase.elim hc hf).elim⟩

theorem View.DryInDry.move {v w : View} (h : Move v w) (hv : View.DryInDry v) : View.DryInDry w := by
  have hfaulted {u : View} (hphase : u.phase = .complete ∨ u.phase = .failed) (hu : u.dry = true → u.mode = .dry) :
      View.DryInDry u.faulted := by
    by_cases hmode : u.mode = .fault
    · rw [View.faulted_of_fault hmode]; exact .of_over hphase hu
    · obtain ⟨-, hdry, hkept, -⟩ := View.faulted_leaves hmode
      exact .of_over (hkept ▸ hphase) fun h => Bool.noConfusion (hdry.symm.trans h)
  have hover (hmode : v.mode ≠ .start ∨ v.timing = true ∨ closing v.platen = true ∨ v.platen = .settle) :
      v.phase = .complete ∨ v.phase = .failed := by
    by_contra hunfinished
    obtain ⟨hc, hf⟩ := not_or.1 hunfinished
    obtain ⟨hstarting, hplaten, htiming, -⟩ := hv.start hc hf
    rcases hplaten with hplaten | hplaten <;> simp_all [closing]
  cases h
  case abort hmode =>
    obtain ⟨-, hdry, hphase, -⟩ := v.aborted_leaves
    exact .of_over (hphase ▸ hover (.inl (by rw [hmode]; decide))) fun h => Bool.noConfusion (hdry.symm.trans h)
  case fault hguard =>
    refine hfaulted ?_ hv.dry
    rcases hguard with hfailed | hmode | htiming
    · exact .inr hfailed
    · exact hover (.inl hmode)
    · exact hover (.inr (.inl htiming))
  case checkFault hchecking =>
    refine hfaulted ?_ hv.dry
    by_cases hphase : v.phase = .checking
    · exact .inr (if_pos hphase)
    · rw [if_neg hphase]
      by_contra hunfinished
      obtain ⟨hc, hf⟩ := not_or.1 hunfinished
      exact Bool.noConfusion (hchecking.symm.trans ((hv.start hc hf).2.2.2 hphase))
  case opens =>
    by_cases hopen : closing v.platen = true
    · obtain ⟨hmode, hdry, hphase, -⟩ := v.opening_leaves
      exact .of_over (hphase ▸ hover (.inr (.inr (.inl hopen)))) (by rw [hdry, hmode]; exact hv.dry)
    · rw [View.opening_of_open (Bool.eq_false_of_not_eq_true hopen)]; exact hv
  case resync hmode _ =>
    have hidle : v.dry = true → v.mode = .dry := hv.dry
    exact .of_over (hover (.inl (by rcases hmode with hmode | hmode <;> rw [hmode] <;> decide))) (by grind)
  case startCheck hmode => exact .of_over (hover (.inl (by rcases hmode with hmode | hmode <;> rw [hmode] <;> decide))) hv.dry
  case complete hphase =>
    have hstarting : v.mode = .start := (hv.start (by grind) (by grind)).1
    exact .of_over (.inl rfl) fun h => Mode.noConfusion (hstarting.symm.trans (hv.dry h))
  all_goals
    obtain ⟨hdry, hstart⟩ := hv
    constructor <;> simp_all [resetView, closing_eqs]

theorem View.DryInDry.last {v w : View} (h : LastMove v w) (hv : View.DryInDry v) : View.DryInDry w := by
  obtain ⟨hdry, hstart⟩ := hv
  cases h <;> constructor <;> grind

theorem dryOnlyInDry_of_takes {c : Instr} {s : State} {t : Part} (ht : Takes c s t) (h : DryOnlyInDry s.part) : DryOnlyInDry t := by
  rw [dryOnlyInDry_iff] at h ⊢
  obtain ⟨u, hmoves, e, rfl, hlast⟩ := takes_effected ht
  have hu := Moves.keep View.DryInDry.move hmoves h
  have he : View.DryInDry (view e) := by
    rcases hlast with heq | hlast
    · exact heq ▸ hu
    · exact hu.last hlast
  exact Moves.keep View.DryInDry.move (finish_moves .refl) he

/-! ## No close in HOLD or FAULT -/

/-- Where no plan has been frozen in the event: the platen is closed or closing only by a dry cycle in DRY, and the start sequence is
over or begun anew. -/
structure View.ClosedByDry (v : View) : Prop where
  closed : closing v.platen = true → v.mode = .dry ∧ v.dry = true
  settling : v.dry = true → v.platen = .settle → v.mode = .dry
  phase : v.phase ≠ .checking ∧ v.phase ≠ .waiting

theorem View.ClosedByDry.of_idle {v : View} (hopen : closing v.platen = false) (hdry : v.dry = false)
    (hphase : v.phase ≠ .checking ∧ v.phase ≠ .waiting) : View.ClosedByDry v :=
  ⟨fun h => Bool.noConfusion (hopen.symm.trans h), fun h => Bool.noConfusion (hdry.symm.trans h), hphase⟩

theorem View.ClosedByDry.move {v w : View} (h : Move v w) (hv : View.ClosedByDry v) : View.ClosedByDry w := by
  have hfaulted {u : View} (hu : View.ClosedByDry u) : View.ClosedByDry u.faulted := by
    by_cases hmode : u.mode = .fault
    · rw [View.faulted_of_fault hmode]; exact hu
    · obtain ⟨-, hdry, hphase, hopen⟩ := View.faulted_leaves hmode
      exact .of_idle hopen hdry (hphase ▸ hu.phase)
  cases h
  case abort =>
    obtain ⟨-, hdry, hphase, -, -, hopen, hkept⟩ := v.aborted_leaves
    refine .of_idle ?_ hdry (hphase ▸ hv.phase)
    cases hd : v.dry
    · rw [(hkept hd).1, Bool.eq_false_iff]
      exact fun hclosing => Bool.noConfusion (hd.symm.trans (hv.closed hclosing).2)
    · exact hopen hd
  case fault => exact hfaulted hv
  case checkFault =>
    refine hfaulted ⟨hv.closed, hv.settling, ?_⟩
    rw [if_neg hv.phase.1]; exact hv.phase
  case opens =>
    obtain ⟨hmode, hdry, hphase, -⟩ := v.opening_leaves
    refine ⟨fun hclosing => Bool.noConfusion (v.opening_open.symm.trans hclosing), ?_, hphase ▸ hv.phase⟩
    rw [hdry, hmode]
    exact fun hd hsettle => hv.settling hd (View.opening_settle hsettle)
  case reset hphase => exact .of_idle rfl rfl (by rcases hphase with rfl | rfl <;> decide)
  all_goals
    obtain ⟨hclosed, hsettling, hphase⟩ := hv
    constructor <;> simp_all [closing_eqs]

/-- The platen does not close, or is not closed, in HOLD or FAULT. -/
def View.ClosedOutside (v : View) : Prop := closing v.platen = true → v.mode ≠ .hold ∧ v.mode ≠ .fault

theorem View.ClosedByDry.outside {v : View} (hv : View.ClosedByDry v) : View.ClosedOutside v :=
  fun hclosing => by rw [(hv.closed hclosing).1]; decide

theorem View.ClosedByDry.last {v w : View} (h : LastMove v w) (hv : View.ClosedByDry v) : View.ClosedOutside w := by
  intro hclosing
  obtain ⟨hclosed, -, -⟩ := hv
  cases h <;> grind [modeHoldsOff]

/-- An arrival at OPEN closes the platen only for a dry cycle that begins, in DRY, unless the start that it completes leaves SEEK. -/
theorem enterOpen_closedOutside (p : Part) : View.ClosedOutside (view (enterOpen p)) := by
  unfold enterOpen
  generalize hq : applyPending (concludeArrival (platenOpened p)) = q
  have hopened : q.sequencer.platen = .opened := by rw [← hq, applyPending_sequencer, concludeArrival_platen]; rfl
  intro hclosing
  replace hclosing : closing (completeIfWaiting (beginDue q)).sequencer.platen = true := hclosing
  rw [completeIfWaiting_platen] at hclosing
  have hdry : (view (beginDue q)).mode = .dry := by
    unfold beginDue at hclosing ⊢
    split
    next hdue => exact (congrArg ModeController.mode (beginDry_control q)).trans hdue.2.1
    next hdue => rw [if_neg hdue, hopened] at hclosing; exact Bool.noConfusion hclosing
  unfold completeIfWaiting
  split
  · rw [view_completeStart]; exact ⟨Mode.noConfusion, Mode.noConfusion⟩
  · rw [hdry]; exact ⟨Mode.noConfusion, Mode.noConfusion⟩

theorem arrive_closedOutside {p : Part} (h : View.ClosedOutside (view p)) : View.ClosedOutside (view (arrive p)) := by
  unfold arrive; split
  · exact enterOpen_closedOutside p
  · exact h

theorem restarted_closedOutside (p : Part) : View.ClosedOutside (view (restarted p)) := by
  have hplaten : closing (restarted p).sequencer.platen = false := by
    unfold restarted; dsimp only; split <;> rfl
  intro hclosing
  exact Bool.noConfusion (hplaten.symm.trans hclosing)

theorem finish_closedOutside {p : Part} (h : View.ClosedOutside (view p)) : View.ClosedOutside (view (finish p)) := by
  rw [finish_eq]
  unfold endOf
  rw [view_drive]
  split
  · exact restarted_closedOutside _
  · exact arrive_closedOutside h

/-- Settles O12: moves keep `DryInDry`; and until a plan is frozen, which is a command's last move, the platen closes only in DRY. -/
theorem noCloseInHoldOrFault : Obligations.NoCloseInHoldOrFault := by
  constructor
  · intro s t hs hstep
    cases hpending : s.pending with
    | nil =>
      unfold step at hstep
      rw [hpending] at hstep
      injection hstep with hst
      exact hst ▸ hs
    | cons c rest =>
      unfold step at hstep
      rw [hpending] at hstep
      obtain ⟨t', ht'⟩ := exec_takes c { s with pending := rest }
      have hparts := ht'.symm.trans hstep
      injection hparts with hparts
      exact hparts ▸ dryOnlyInDry_of_takes ht' hs
  · intro c s t hphase hsettle hopen ht hclosing
    have hv : View.ClosedByDry (view s.part) := by
      refine ⟨fun hclosed => Bool.noConfusion (hopen.symm.trans hclosed), fun hdry hplaten => hsettle ?_ hplaten, ?_⟩
      · exact Option.isSome_iff_ne_none.1 hdry
      · rcases hphase with hphase | hphase <;> simp [view, hphase]
    obtain ⟨u, hmoves, e, rfl, hlast⟩ := takes_effected ht
    have hu := Moves.keep View.ClosedByDry.move hmoves hv
    have he : View.ClosedOutside (view e) := by
      rcases hlast with heq | hlast
      · exact heq ▸ hu.outside
      · exact hu.last hlast
    exact finish_closedOutside he hclosing

/-! ## A converter fault holds FAULT -/

/-- FAULT by a converter fault, or a restart since, whose start sequence has come no further than the clock, with `late` to the reading
of the block. -/
def View.HeldInFault (late : Bool) (v : View) : Prop :=
  (v.mode = .fault ∧ v.converterFault = true ∧ (v.phase = .complete ∨ v.phase = .failed)) ∨
    (v.mode = .start ∧ (v.platen = .opened ∨ v.platen = .opening) ∧ v.timing = false ∧ v.checking = false ∧
      (v.phase = .off ∨ v.phase = .crystal ∨ (late = true ∧ v.phase = .reading)))

theorem View.HeldInFault.move {late : Bool} {v w : View} (h : Move v w) (hv : View.HeldInFault late v) : View.HeldInFault late w := by
  have hopening : v.opening.mode = v.mode ∧ v.opening.phase = v.phase ∧ v.opening.converterFault = v.converterFault :=
    ⟨v.opening_leaves.1, v.opening_leaves.2.2.1, v.opening_leaves.2.2.2.2⟩
  rcases hv with ⟨hmode, hfault, hphase⟩ | ⟨hmode, hplaten, htiming, hchecking, hphase⟩
  · cases h
    case fault => rw [View.faulted_of_fault hmode]; exact .inl ⟨hmode, hfault, hphase⟩
    case checkFault =>
      rw [View.faulted_of_fault (by exact hmode)]
      refine .inl ⟨hmode, rfl, ?_⟩
      rw [if_neg (by rcases hphase with hphase | hphase <;> rw [hphase] <;> decide)]; exact hphase
    case opens => exact .inl (by rwa [hopening.1, hopening.2.1, hopening.2.2, and_iff_right hmode, and_iff_right hfault])
    case reset hphase => exact .inr ⟨rfl, .inr rfl, rfl, rfl, by tauto⟩
    all_goals (unfold View.HeldInFault; grind)
  · cases h
    case fault hguard => grind
    case opens =>
      rw [View.opening_of_open (by rcases hplaten with hplaten | hplaten <;> rw [hplaten] <;> rfl)]
      exact .inr ⟨hmode, hplaten, htiming, hchecking, hphase⟩
    case reset hphase => exact .inr ⟨rfl, .inr rfl, rfl, rfl, by tauto⟩
    all_goals (unfold View.HeldInFault; grind)

theorem View.HeldInFault.last {v w : View} (h : LastMove v w) (hv : View.HeldInFault false v) : View.HeldInFault true w := by
  unfold View.HeldInFault at hv ⊢
  cases h <;> grind [modeHoldsOff]

theorem View.HeldInFault.late {v : View} (hv : View.HeldInFault false v) : View.HeldInFault true v := by
  unfold View.HeldInFault at hv ⊢; grind

/-- Settles O11: in FAULT by a converter fault every move but a reset stays there, and after a reset nothing but START is reached. -/
theorem converterFaultHoldsFault : Obligations.ConverterFaultHoldsFault := by
  intro c s t hphase hmode hfault ht
  have hv : View.HeldInFault false (view s.part) := .inl ⟨hmode, hfault, hphase⟩
  obtain ⟨u, hmoves, e, rfl, hlast⟩ := takes_effected ht
  have hu := Moves.keep View.HeldInFault.move hmoves hv
  have he : View.HeldInFault true (view e) := by
    rcases hlast with heq | hlast
    · exact heq ▸ hu.late
    · exact hu.last hlast
  rcases Moves.keep View.HeldInFault.move (finish_moves .refl) he with ⟨hmode, hfault, -⟩ | ⟨hmode, -⟩
  · exact .inr ⟨hmode, hfault⟩
  · exact .inl hmode

end Sys2Proof.Machine.StationRules
end

section
/-! The rules over every command that are read off its end: the outputs driven last (O9, O10), the pending restart (O13) and the entry
to OPEN (O14); and the steps and the reset state (O1, O2, O3). -/

namespace Sys2Proof.Machine.EveryCommand

open Effects DrivenOutputs

/-! ## Steps and the reset state -/

/-- Settles O1: both are `step` by its own case on the queue. -/
theorem stepTakesFrontCommand : Obligations.StepTakesFrontCommand := ⟨fun _ _ _ => rfl, fun _ => rfl⟩

/-- Settles O2, from what every command gives. -/
theorem everyCommandCompletes : Obligations.EveryCommandCompletes := exec_takes

theorem reset_ranges :
    ReadingsOk State.reset.part.sampling ∧ DrawTableOk State.reset.part.regulator.draws ∧ CountersOk State.reset.part.monitor ∧
      CountsOk State.reset.part ∧ LogOk State.reset.part.log := by
  unfold ReadingsOk DrawTableOk CountersOk CountsOk LogOk; decide

theorem reset_contacts : ContactsOk State.reset.part := by unfold ContactsOk; decide

/-- Settles O3: every queue, table and log is empty, every count 0 and the platen in OPENING with no timer. -/
theorem resetMeetsInvariants : Obligations.ResetMeetsInvariants := by
  obtain ⟨hreadings, hdraws, hcounters, hcounts, hlog⟩ := reset_ranges
  refine ⟨rfl, ⟨by decide, .nil, by decide, by decide, .nil⟩, hreadings, hdraws, hcounters, hcounts, hlog, reset_contacts, ?_, ?_⟩
  · exact fun hdry => absurd rfl hdry
  · exact fun _ _ => ⟨rfl, .inr rfl, rfl, fun _ => rfl⟩

/-! ## Outputs -/

theorem alarmOutput_iff (p : Part) :
    alarmOutput p = true ↔ p.loader.phase = .configBad ∨ p.control.alarms &&& enableMask p ≠ 0 := by
  simp only [alarmOutput, Bool.or_eq_true, decide_eq_true_eq, beq_iff_eq, or_comm]

/-- Settles O9: the part left is a driven one, and its ALARM is `alarmOutput` of that same part. -/
theorem alarmFollowsEnabledFlags : Obligations.AlarmFollowsEnabledFlags := by
  intro c s t ht
  obtain ⟨p, rfl⟩ := eq_drive_of_takes ht
  exact alarmOutput_iff (drive p)

theorem closing_iff (q : Platen) : closing q = true ↔ q = .closing ∨ q = .dwell := by cases q <;> decide

theorem driven_getElem? {out : Nat → Bool} {channel : Nat} (hchannel : channel < 8) :
    ((List.range 8).map out)[channel]? = some (out channel) := by
  simp [hchannel]

/-- Settles O10: valves, lifts and heaters of a driven part are the outputs of that same part. -/
theorem valvesLiftsAndHeatersFollow : Obligations.ValvesLiftsAndHeatersFollow := by
  intro c s t ht
  obtain ⟨p, rfl⟩ := eq_drive_of_takes ht
  exact ⟨closing_iff _, rfl, fun channel hchannel => ⟨driven_getElem? hchannel, driven_getElem? hchannel⟩⟩

/-! ## The end of an event -/

/-- What follows an event leaves a restart pending only while its reply is queued (R192). -/
theorem conclude_waits {p : Part} (hpending : (conclude p).responder.pendingRestart = true) :
    ∃ f ∈ (conclude p).port.queue, f.restartReply = true := by
  unfold conclude at hpending ⊢
  unfold restartIfDue at hpending ⊢
  split at hpending
  · rw [arrive_responder] at hpending
    unfold restartPart beginStart at hpending
    split at hpending <;> exact Bool.noConfusion hpending
  next hdue =>
    rw [if_neg hdue, arrive_of_not_arriving (arrive_not_arriving p)]
    rw [arrive_of_not_arriving (arrive_not_arriving p), arrive_responder] at hpending
    simpa [restartDue, hpending] using hdue

/-- Settles O13: every event and all that is due before one end in `conclude`. -/
theorem restartWaitsOnlyForItsReply : Obligations.RestartWaitsOnlyForItsReply := by
  refine ⟨fun c s t ht hpending => ?_, fun p => conclude_waits⟩
  obtain rfl := eq_finish_of_takes ht
  exact conclude_waits hpending

/-- Settles O14: `arrive` is the entry to OPEN by its own condition, and is not taken again after it. -/
theorem eventEndEntersOpenOnce : Obligations.EventEndEntersOpenOnce := by
  intro p
  rw [finish_eq]
  unfold arrive
  split <;> rfl

end Sys2Proof.Machine.EveryCommand
end

section
/-! The layer under the statements about single commands: a command that leaves platen, open sensor and start phase alone, and what a
joining frame does to the port and to the monitor. -/

namespace Sys2Proof.Machine.Outcomes

/-! ## Commands that bring no arrival about -/

/-- Where platen and open sensor are kept, and a start that has begun has begun before, no arrival comes about. -/
theorem not_arriving_of_begun {p q : Part} (ha : ¬arriving p) (hplaten : q.sequencer.platen = p.sequencer.platen)
    (hsensor : q.pins.openSensor = p.pins.openSensor) (hbegun : p.loader.phase ≠ .off) : ¬arriving q :=
  fun ⟨hopening, hactive, _⟩ => ha ⟨hplaten ▸ hopening, hsensor ▸ hactive, hbegun⟩

/-- A command that keeps platen, open sensor and start phase, by its effect on the part it finds. -/
theorem takes_of_kept {c : Instr} {f : Part → Part} {s : State} {r q : Part} (he : exec c s = run f s) (hr : Finds s r)
    (hf : f r = q) (hplaten : q.sequencer.platen = r.sequencer.platen := by simp)
    (hsensor : q.pins.openSensor = r.pins.openSensor := by simp) (hphase : q.loader.phase = r.loader.phase := by simp) :
    Takes c s (endOf q) :=
  takes_of_run he hr hf (not_arriving_of_same (finds_not_arriving hr) hplaten hsensor hphase)

/-- A frame whose payload keeps platen, open sensor and start phase, by what it does to the part that hears it. -/
theorem takes_of_heard {c : Instr} {f : Part → Part} {h : Header} {s : State} {r q : Part}
    (he : exec c s = run (arrival h f) s) (hr : Hears h s r) (hf : f r = q)
    (hplaten : q.sequencer.platen = r.sequencer.platen := by simp)
    (hsensor : q.pins.openSensor = r.pins.openSensor := by simp) (hphase : q.loader.phase = r.loader.phase := by simp) :
    Takes c s (endOf q) :=
  takes_of_hears he hr hf (not_arriving_of_same (hears_not_arriving hr) hplaten hsensor hphase)

/-! ## What a joining frame leaves of the monitor -/

/-- The monitor but for its counters is kept (R172). -/
structure SameControls (m n : Monitor) : Prop where
  controls : n.controls = m.controls
  frozen : n.frozen = m.frozen
  snapshot : n.snapshot = m.snapshot

theorem SameControls.refl (m : Monitor) : SameControls m m := ⟨rfl, rfl, rfl⟩

theorem SameControls.trans {l m n : Monitor} (h : SameControls l m) (k : SameControls m n) : SameControls l n :=
  ⟨k.controls.trans h.controls, k.frozen.trans h.frozen, k.snapshot.trans h.snapshot⟩

theorem sameControls_addAll (f : Control → Nat) (m : Monitor) : SameControls m (addAll f m) := by
  obtain ⟨hcontrols, hfrozen, hsnapshot, -⟩ := addAll_leaves f m
  exact ⟨hcontrols, hfrozen, hsnapshot⟩

theorem sameControls_count (e : Event) (p : Part) : SameControls p.monitor (count e p).monitor := sameControls_addAll _ _

theorem sameControls_joinQueue (f : TxFrame) (p : Part) : SameControls p.monitor (joinQueue f p).monitor := by
  unfold joinQueue
  split
  · split <;> split <;> first | exact .refl _ | exact sameControls_count _ _
  · split
    · exact .refl _
    · dsimp only; split <;> exact sameControls_count _ _

theorem tryBegin_monitor (p : Part) : (tryBegin p).monitor = p.monitor := by unfold tryBegin; split <;> rfl

theorem sameControls_join (f : TxFrame) (p : Part) : SameControls p.monitor (join f p).monitor := by
  unfold join; rw [tryBegin_monitor]; exact sameControls_joinQueue f p

theorem sameControls_send (b : FrameBody) (p : Part) : SameControls p.monitor (send b p).monitor := sameControls_join _ _

/-! ## What the port after a joining depends on -/

theorem joinQueue_port_congr {p q : Part} (f : TxFrame) (hport : p.port = q.port) : (joinQueue f p).port = (joinQueue f q).port := by
  unfold joinQueue withQueue
  simp only [raise_port, count_port, hport]
  repeat' split
  all_goals simp [hport]

theorem ownStation_congr {p q : Part} (hloader : p.loader = q.loader) : ownStation p = ownStation q := by
  unfold ownStation; rw [hloader]

theorem tryBegin_port_congr {p q : Part} (hport : p.port = q.port) (hloader : p.loader = q.loader) :
    (tryBegin p).port = (tryBegin q).port := by
  unfold tryBegin transmitting; rw [hport, ownStation_congr hloader]; split <;> simp [hport]

theorem join_port_congr {p q : Part} (f : TxFrame) (hport : p.port = q.port) (hloader : p.loader = q.loader) :
    (join f p).port = (join f q).port := by
  unfold join
  exact tryBegin_port_congr (joinQueue_port_congr f hport) (by simpa using hloader)

/-- The port after a frame is sent depends on the port, on H and on the loader before it. -/
theorem send_port_congr {p q : Part} (b : FrameBody) (hport : p.port = q.port) (hh : p.tracker.h = q.tracker.h)
    (hloader : p.loader = q.loader) : (send b p).port = (send b q).port := by
  have hbuilt : buildFrame b p = buildFrame b q := by unfold buildFrame cfg; rw [hh, hloader]
  unfold send; rw [hbuilt]; exact join_port_congr _ hport hloader

/-! ## The first element that a test names -/

section

variable {α : Type} {t : α → Bool} {a b : List α} {g : α}

theorem find_first (ha : ∀ x ∈ a, t x = false) (hg : t g = true) : (a ++ g :: b).find? t = some g := by
  rw [List.find?_append, List.find?_eq_none.2 fun x hx => by simp [ha x hx], List.find?_cons, hg]; rfl

theorem eraseP_first (ha : ∀ x ∈ a, t x = false) (hg : t g = true) : (a ++ g :: b).eraseP t = a ++ b := by
  rw [List.eraseP_append_right _ fun x hx => by simp [ha x hx], List.eraseP_cons_of_pos hg]

end

end Sys2Proof.Machine.Outcomes
end

section
/-! Resets, the start sequence, the configuration block and the pins (O15 to O18): each command's effect on the part it finds is its
operation by the branch that the premises name. -/

namespace Sys2Proof.Machine.StartUp

open Outcomes

/-! ## Resets (O15) -/

/-- POWER-ON with the reset input inactive: the reset values, the start sequence begun, and the platen in OPEN where the sensor is
active. -/
theorem takes_powerOn {s : State} (hreset : s.part.pins.resetInput = false) :
    Takes .powerOn s
      (drive
        { Part.reset with
          port := { LinePort.reset with waitQuiet := onLine s.part }, sampling := Sampling.reset s.part.sampling.factory,
          sequencer := { Sequencer.reset with platen := if s.part.pins.openSensor then .opened else .opening },
          loader := { Loader.reset with phase := .crystal, straps := s.part.pins.straps }, pins := s.part.pins }) := by
  obtain ⟨pending, port, tracker, sampling, regulator, sequencer, dose, control, monitor, log, responder, loader, pins⟩ := s
  obtain ⟨straps, resetInput, stopInput, openSensor, closedSensor⟩ := pins
  obtain rfl : resetInput = false := hreset
  cases openSensor <;> rfl

theorem takes_powerOn_held {s : State} (hreset : s.part.pins.resetInput = true) :
    Takes .powerOn s
      (drive
        { Part.reset with
          port := { LinePort.reset with waitQuiet := onLine s.part }, sampling := Sampling.reset s.part.sampling.factory,
          pins := s.part.pins }) := by
  obtain ⟨pending, port, tracker, sampling, regulator, sequencer, dose, control, monitor, log, responder, loader, pins⟩ := s
  obtain ⟨straps, resetInput, stopInput, openSensor, closedSensor⟩ := pins
  obtain rfl : resetInput = true := hreset
  cases openSensor <;> rfl

theorem finish_holdReset (r : Part) :
    finish (holdReset r) =
      drive
        { Part.reset with
          port := { LinePort.reset with waitQuiet := onLine r }, sampling := Sampling.reset r.sampling.factory,
          monitor :=
            { counters := r.monitor.counters, controls := r.monitor.controls.map (fun t => { t with memory := false }),
              frozen := none, snapshot := none },
          log := r.log, pins := { r.pins with resetInput := true } } := by
  have hheld : ¬arriving (holdReset r) := fun h => h.2.2 rfl
  rw [finish_eq_endOf hheld, endOf_of_noRestart (show NoRestart (holdReset r) from rfl)]
  rfl

/-- Settles O15: both power-ons and the hold compute; the release is its own two branches. -/
theorem resetsLeaveTheirValues : Obligations.ResetsLeaveTheirValues := by
  refine ⟨fun s => takes_powerOn, fun s => takes_powerOn_held, fun s r hr => ?_, fun s r hr => ⟨fun hoff => ?_, fun hbegun => ?_⟩⟩
  · exact finish_holdReset r ▸ takes_of_run_finish rfl hr rfl
  · exact takes_of_run_finish rfl hr (by unfold releaseReset; exact if_pos hoff)
  · exact takes_of_kept rfl hr (by unfold releaseReset; exact if_neg hbegun)

/-! ## The start sequence (O16) -/

/-- Settles O16: each step by the phase it waits for. -/
theorem startSequenceSteps : Obligations.StartSequenceSteps := by
  refine fun s r hr => ⟨fun hcrystal => ?_, fun hwaiting => ?_, fun hother => ?_, fun hother => ?_⟩
  · have hbegun : r.loader.phase ≠ .off := by rw [hcrystal]; decide
    have ha {q : Part} (hplaten : q.sequencer.platen = r.sequencer.platen) (hsensor : q.pins.openSensor = r.pins.openSensor) :=
      not_arriving_of_begun (finds_not_arriving hr) hplaten hsensor hbegun
    constructor
    · exact takes_of_run rfl hr (if_pos hcrystal) (ha rfl rfl)
    · exact takes_of_run rfl hr (if_pos hcrystal) (ha rfl rfl)
  · exact takes_of_run_finish rfl hr (if_pos hwaiting)
  · exact ⟨takes_of_kept rfl hr (if_neg hother), takes_of_kept rfl hr (if_neg hother)⟩
  · exact takes_of_kept rfl hr (if_neg hother)

/-! ## The configuration block (O17) -/

theorem locatorSound_iff (m : MemoryRead) : locatorSound m = true ↔ m.endAddr.toNat = m.startAddr.toNat + 94 := by
  simp only [locatorSound, blockLength, Bool.and_eq_true, decide_eq_true_eq, beq_iff_eq]
  omega

theorem strapsInvalid_iff (p : Part) : strapsInvalid p = true ↔ p.loader.straps = 0 ∨ p.loader.straps = 31 := by
  simp [strapsInvalid]

/-- What makes a block of 95 bytes end in CONFIG_BAD (R195, R197, R199). -/
theorem blockBad_iff (p : Part) (b : List Byte) (k : Configuration) :
    (strapsInvalid p || !checksPass b || structuralError k) = true ↔
      p.loader.straps = 0 ∨ p.loader.straps = 31 ∨ checksPass b = false ∨ structuralError k = true := by
  rw [Bool.or_eq_true, Bool.or_eq_true, strapsInvalid_iff, Bool.not_eq_true', or_assoc, or_assoc]

section

variable {r : Part} {m : MemoryRead} (hreading : r.loader.phase = .reading)
include hreading

theorem loadBlock_of_unsound (hsound : m.endAddr.toNat ≠ m.startAddr.toNat + 94) : loadBlock m r = endConfigBad none r := by
  unfold loadBlock
  rw [if_pos hreading, if_neg (by rwa [locatorSound_iff])]

theorem loadBlock_of_bad (hsound : m.endAddr.toNat = m.startAddr.toNat + 94)
    (hbad : (strapsInvalid r || !checksPass (keptBytes m.bytes) || structuralError (clampBlock (readBlock (keptBytes m.bytes)))) = true) :
    loadBlock m r = endConfigBad (some (keptBytes m.bytes)) r := by
  unfold loadBlock
  rw [if_pos hreading, if_pos ((locatorSound_iff m).2 hsound)]
  exact if_pos hbad

theorem loadBlock_of_good (hsound : m.endAddr.toNat = m.startAddr.toNat + 94)
    (hgood : ¬(strapsInvalid r || !checksPass (keptBytes m.bytes) || structuralError (clampBlock (readBlock (keptBytes m.bytes)))) = true) :
    loadBlock m r = putInForce (keptBytes m.bytes) r := by
  unfold loadBlock
  rw [if_pos hreading, if_pos ((locatorSound_iff m).2 hsound)]
  exact if_neg hgood

end

/-- The check of start-up starts beside CONFIG_CLAMPED: the one writes the sampling unit, the other a flag. -/
theorem putInForce_eq (b : List Byte) (r : Part) :
    putInForce b r =
      raiseIf (clampedAny b) .configClamped
        { r with
          loader := { r.loader with phase := .checking, block := some b, config := some (clampBlock (readBlock b)) },
          regulator := { r.regulator with setpoint := (clampBlock (readBlock b)).spRun },
          sequencer := { r.sequencer with dwellLimit := (clampBlock (readBlock b)).nconf },
          sampling := { r.sampling with check := some { ticks := 0, sum := 0, count := 0 } } } := by
  unfold putInForce
  dsimp only
  cases clampedAny b <;> rfl

/-- Settles O17: the four outcomes of `loadBlock`, none of which moves the platen. -/
theorem configurationPutInForceOrBad : Obligations.ConfigurationPutInForceOrBad := by
  rintro s r m b k hr
  refine ⟨fun hother => takes_of_kept rfl hr (if_neg hother), ?_⟩
  rintro hreading hb rfl
  obtain rfl : b = keptBytes m.bytes := hb
  have ha {q : Part} (hplaten : q.sequencer.platen = r.sequencer.platen) (hsensor : q.pins.openSensor = r.pins.openSensor) :=
    not_arriving_of_begun (finds_not_arriving hr) hplaten hsensor (by rw [hreading]; decide)
  refine ⟨?_, ?_, fun hsound => ?_⟩
  · rintro ⟨hsound, hzero, hall, hchecks, hstructure⟩
    have hgood := loadBlock_of_good hreading hsound (by
      rw [blockBad_iff, hchecks, hstructure]
      rintro (h | h | h | h)
      exacts [hzero h, hall h, Bool.noConfusion h, Bool.noConfusion h])
    exact takes_of_run rfl hr (hgood.trans (putInForce_eq _ r)) (ha (by simp) (by simp))
  · rintro ⟨hsound, hbad⟩
    exact takes_of_run rfl hr (loadBlock_of_bad hreading hsound ((blockBad_iff ..).2 hbad)) (ha rfl rfl)
  · exact takes_of_run rfl hr (loadBlock_of_unsound hreading hsound) (ha rfl rfl)

/-! ## The pins (O18) -/

theorem stopToHold_mode (p : Part) : (stopToHold p).control.mode = if p.control.mode = .run then .hold else p.control.mode := by
  unfold stopToHold; split <;> rfl

theorem stopToHold_tracker (p : Part) :
    (stopToHold p).tracker =
      { p.tracker with quietCount := if p.control.mode = .run then 0 else p.tracker.quietCount } := by
  unfold stopToHold; split <;> rfl

/-- A freeze comes with the line-stop flag where it was clear, under freeze-on-stop, on counters not frozen (R179). -/
theorem setLineStop_frozen (p : Part) :
    (setLineStop p).monitor.frozen =
      if p.control.lineStop = false ∧ freezeOnStop (cfg p) = true ∧ p.monitor.frozen = none then some .stop else p.monitor.frozen := by
  unfold setLineStop
  dsimp only
  cases p.control.lineStop <;> cases freezeOnStop (cfg p) <;> cases hfrozen : p.monitor.frozen <;> simp [hfrozen]

theorem setLineStop_controls (p : Part) : (setLineStop p).monitor.controls = p.monitor.controls := by
  unfold setLineStop; dsimp only; split <;> rfl

/-- The stop input's activation as a whole: flag, freeze, notice, and RUN to HOLD with the quiet count anew (R49, R158, R160, R179). -/
theorem activateStop_gives (p : Part) :
    (activateStop p).control.lineStop = true ∧
      (activateStop p).control.mode = (if p.control.mode = .run then .hold else p.control.mode) ∧
      (activateStop p).port = (send (.lineStop .input) p).port ∧
      (activateStop p).monitor.frozen =
        (if p.control.lineStop = false ∧ freezeOnStop (cfg p) = true ∧ p.monitor.frozen = none then some .stop else p.monitor.frozen) ∧
      (activateStop p).monitor.controls = p.monitor.controls ∧
      (activateStop p).tracker = { p.tracker with quietCount := if p.control.mode = .run then 0 else p.tracker.quietCount } := by
  have hmonitor := sameControls_send (.lineStop .input) (setLineStop p)
  unfold activateStop
  rw [stopToHold_mode, stopToHold_tracker, stopToHold_monitor, stopToHold_port, hmonitor.frozen, hmonitor.controls,
    setLineStop_frozen, setLineStop_controls]
  refine ⟨by simp, by simp, ?_, rfl, rfl, by simp⟩
  exact send_port_congr _ (setLineStop_port p) (by simp) (setLineStop_loader p)

/-- RUN entered HOLD: neither the idle flag and clock nor the listen count change (R95, R98). -/
theorem regulatorOnMode_run_hold (g : Regulator) : regulatorOnMode .run .hold g = g := by
  unfold regulatorOnMode
  simp [idleMode]

theorem activateStop_regulator (p : Part) : (activateStop p).regulator = p.regulator := by
  unfold activateStop stopToHold
  split
  next hrun =>
    show regulatorOnMode (send _ _).control.mode .hold (send _ _).regulator = _
    rw [hrun, regulatorOnMode_run_hold]; simp
  · simp

/-- Settles O18: the pins written, and for an activation outside START what `activateStop` gives on the part with the pin written. -/
theorem pinChangesAreKept : Obligations.PinChangesAreKept := by
  refine fun s r hr => ⟨fun x => ?_, fun b => ?_, ?_, ?_, fun hactive => ?_, fun hinactive hstart => ?_, fun hinactive hmode => ?_⟩
  · exact takes_of_kept rfl hr rfl
  · exact takes_of_kept rfl hr rfl
  · exact takes_of_run rfl hr rfl fun h => Bool.noConfusion h.2.1
  · exact takes_of_kept rfl hr rfl
  · exact takes_of_kept rfl hr (if_pos hactive)
  · have heffect : stopInputOn r = { r with pins := { r.pins with stopInput := true } } := by
      unfold stopInputOn; rw [hinactive]; exact if_pos hstart
    exact takes_of_kept rfl hr heffect
  · have heffect : stopInputOn r = activateStop { r with pins := { r.pins with stopInput := true } } := by
      unfold stopInputOn; rw [hinactive]; exact if_neg hmode
    obtain ⟨hline, hmodes, hport, hfrozen, hcontrols, htracker⟩ := activateStop_gives { r with pins := { r.pins with stopInput := true } }
    exact ⟨_, takes_of_kept rfl hr heffect (activateStop_platen _), by simp, hline, hmodes, by simp, by simp,
      hport.trans (send_port_congr _ rfl rfl rfl), hfrozen, hcontrols, htracker, by simp, activateStop_regulator _,
      activateStop_platen _, by simp, by simp, by simp, by simp⟩

end Sys2Proof.Machine.StartUp
end

section
/-! The sending side of the line port (O19 to O22): a joining frame, the beginning of a transmission, and its three ends. -/

namespace Sys2Proof.Machine.Sending

open Outcomes TransmitQueue

/-! ## A joining frame (O19) -/

section

variable {f g : TxFrame} {p : Part} {a b : List TxFrame}

theorem joinQueue_of_room (hnone : ∀ x ∈ p.port.queue, replaces f x = false) (hroom : p.port.queue.length < 16) :
    joinQueue f p = withQueue (place f p.port.queue) p := by
  unfold joinQueue
  rw [List.find?_eq_none.2 fun x hx => by simp [hnone x hx]]
  exact if_pos hroom

/-- At a full queue TX_DROPPED is counted and TX_OVERFLOW raised; a more urgent frame takes the place of the one given up (R22). -/
theorem joinQueue_of_full (hnone : ∀ x ∈ p.port.queue, replaces f x = false) (hfull : 16 ≤ p.port.queue.length) :
    joinQueue f p =
      if priority f.body < worstPriority p.port.queue then
        raise .txOverflow (count .txDropped
          (withQueue
            (place f (eraseLast (fun g => !g.sending && priority g.body == worstPriority p.port.queue) p.port.queue)) p))
      else raise .txOverflow (count .txDropped p) := by
  unfold joinQueue
  rw [List.find?_eq_none.2 fun x hx => by simp [hnone x hx], if_neg (Nat.not_lt.2 hfull)]
  rfl

/-- The frame given up is the newest of the largest priority value not in transmission (R22). -/
theorem eraseLast_worst (hqueue : p.port.queue = a ++ g :: b) (hidle : g.sending = false)
    (ha : ∀ x ∈ a, x.sending = false → priority x.body ≤ priority g.body)
    (hb : ∀ x ∈ b, x.sending = false → priority x.body < priority g.body) :
    worstPriority p.port.queue = priority g.body ∧
      eraseLast (fun g => !g.sending && priority g.body == worstPriority p.port.queue) p.port.queue = a ++ b := by
  have hworst : worstPriority p.port.queue = priority g.body := by
    rw [hqueue]
    refine Nat.le_antisymm (worst_le fun x hx hx' => ?_) (priority_le_worst (by simp) hidle)
    rcases List.mem_append.1 hx with hx | hx
    · exact ha x hx hx'
    · rcases List.mem_cons.1 hx with rfl | hx
      · exact Nat.le_refl _
      · exact (hb x hx hx').le
  refine ⟨hworst, ?_⟩
  rw [hworst, hqueue]
  refine eraseLast_append (by simp [hidle]) fun x hx => ?_
  cases hx' : x.sending with
  | true => rfl
  | false => simpa using (hb x hx hx').ne

/-- A frame replaced leaves, and the joining one takes its place, unless the one queued is in transmission (R20). -/
theorem joinQueue_of_match (hqueue : p.port.queue = a ++ g :: b) (ha : ∀ x ∈ a, replaces f x = false) (hg : replaces f g = true) :
    joinQueue f p =
      (if isDraw f.body then if g.sending then p else withQueue (place f (a ++ b)) p
      else count .txDropped (if g.sending then p else withQueue (place f (a ++ b)) p)) := by
  unfold joinQueue
  rw [hqueue, find_first ha hg, eraseP_first ha hg]
  dsimp only
  cases g.sending <;> rfl

end

theorem replaces_eq_false {f x : TxFrame} (hdraw : ¬(isDraw f.body = true ∧ isDraw x.body = true))
    (hreport : ∀ y : SealReport, f.body = .sealReport y → reportTag x.body ≠ some y.tag) : replaces f x = false := by
  unfold replaces
  cases hf : f.body with
  | drawNotice feed cls demand => exact Bool.eq_false_of_not_eq_true fun hx => hdraw ⟨by rw [hf]; rfl, hx⟩
  | sealReport r => simpa using hreport r hf
  | _ => rfl

/-- Settles O19: the branches of `joinQueue`, each with the place that the two halves of the queue give. -/
theorem framesJoinTheQueue : Obligations.FramesJoinTheQueue := by
  intro f p a b c d g hc hd
  refine ⟨fun hdraw hreport => ?_, fun hqueue hab => ⟨fun hf hg ha => ?_, fun y hf hg ha => ?_⟩⟩
  · have hnone (x) (hx : x ∈ p.port.queue) : replaces f x = false :=
      replaces_eq_false (hdraw x hx) fun y hf => hreport y hf x hx
    refine ⟨fun hroom hqueue => ?_, fun hfull hworst => ?_, fun hfull hqueue hab hidle hurgent ha hb => ?_⟩
    · rw [joinQueue_of_room hnone hroom, hqueue, place_append f c d hc hd]; rfl
    · rw [joinQueue_of_full hnone hfull, if_neg (Nat.not_lt.2 (worst_le hworst))]
    · obtain ⟨hworst, herased⟩ := eraseLast_worst hqueue hidle ha hb
      rw [joinQueue_of_full hnone hfull, herased, if_pos (hworst ▸ hurgent), hab, place_append f c d hc hd]; rfl
  · rw [joinQueue_of_match hqueue (fun x hx => (replaces_of_draw hf).trans (ha x hx)) ((replaces_of_draw hf).trans hg),
      if_pos hf, hab, place_append f c d hc hd]
    rfl
  · have hreplaces {x : TxFrame} : replaces f x = (reportTag x.body == some y.tag) := replaces_of_report hf
    rw [joinQueue_of_match hqueue (fun x hx => by rw [hreplaces]; simpa using ha x hx) (by rw [hreplaces, hg]; exact beq_self_eq_true _),
      if_neg (by rw [hf]; exact Bool.false_ne_true), hab, place_append f c d hc hd]
    rfl

/-! ## The beginning of a transmission (O20) -/

section

variable {p : Part}

theorem tryBegin_of_waiting {f : TxFrame} {fs : List TxFrame} (hquiet : p.port.quiet = true) (hqueue : p.port.queue = f :: fs)
    (hidle : ∀ g ∈ p.port.queue, g.sending = false) (hown : (ownStation p).isSome = true) :
    tryBegin p = { p with port := { p.port with quiet := false, queue := { f with sending := true } :: fs } } := by
  have hnone : transmitting p = false := List.any_eq_false.2 fun g hg => by simp [hidle g hg]
  unfold tryBegin
  rw [hquiet, hnone, hown, hqueue]
  rfl

theorem tryBegin_of_busy (hquiet : p.port.quiet = false) : tryBegin p = p := by
  unfold tryBegin; rw [hquiet]; rfl

theorem tryBegin_of_nothing (hnothing : p.port.queue = [] ∨ ownStation p = none) : tryBegin p = p := by
  unfold tryBegin
  rcases hnothing with hqueue | hown
  · rw [if_neg (by simp [hqueue])]
  · rw [if_neg (by simp [hown])]

theorem transmitting_of_idle (hidle : ∀ g ∈ p.port.queue, g.sending = false) : transmitting p = false :=
  List.any_eq_false.2 fun g hg => by simp [hidle g hg]

theorem begun_of_own (hown : (ownStation p).isSome = true) : p.loader.phase ≠ .off := by
  intro hoff
  unfold ownStation at hown
  rw [if_pos (.inl hoff)] at hown
  exact Bool.noConfusion hown

/-- The port as the quiet finds it, before a transmission begins. -/
theorem declareQuiet_of_begun (hbegun : p.loader.phase ≠ .off) :
    declareQuiet p =
      tryBegin { p with port := { p.port with quiet := !transmitting p, waitQuiet := false, receiving := false } } := if_neg hbegun

theorem listening_of_off (hoff : p.loader.phase = .off) : listening p = false := by unfold listening; rw [hoff]; rfl

theorem joinQueue_quiet (f : TxFrame) : (joinQueue f p).port.quiet = p.port.quiet := by
  unfold joinQueue withQueue
  simp only [raise_port, count_port]
  repeat' split
  all_goals simp

end

/-- Settles O20: the quiet by the queue it finds, the mark, and a joining frame by whether the line is quiet. -/
theorem quietBeginsTheHead : Obligations.QuietBeginsTheHead := by
  refine ⟨fun s r hr => ⟨fun hoff => ⟨?_, fun mark => ?_⟩, fun f fs hqueue hidle hown => ?_, fun hnothing hidle hbegun => ?_,
    fun hsending hbegun => ?_, fun hlistening mark haccepted => ?_⟩, fun f p => ⟨fun hquiet => ?_, fun hquiet hqueue hidle hown => ?_⟩⟩
  · exact takes_of_kept rfl hr (if_pos hoff)
  · exact takes_of_kept rfl hr (show takeMark mark r = _ by unfold takeMark; rw [listening_of_off hoff]; exact if_pos hoff)
  · rw [← hqueue] at hidle
    refine takes_of_kept rfl hr ((declareQuiet_of_begun (begun_of_own hown)).trans ?_)
    exact tryBegin_of_waiting (by simp [transmitting_of_idle hidle]) hqueue hidle hown
  · refine takes_of_kept rfl hr ((declareQuiet_of_begun hbegun).trans ?_)
    rw [transmitting_of_idle hidle]
    exact tryBegin_of_nothing hnothing
  · refine takes_of_kept rfl hr ((declareQuiet_of_begun hbegun).trans ?_)
    have hsends : transmitting r = true := List.any_eq_true.2 hsending
    rw [hsends]
    exact tryBegin_of_busy rfl
  · refine takes_of_kept rfl hr ?_
    show takeMark mark r = _
    unfold takeMark; rw [if_pos hlistening]; exact if_pos haccepted
  · exact tryBegin_of_busy ((joinQueue_quiet f).trans hquiet)
  · have hjoined : joinQueue f p = withQueue [f] p := by
      rw [joinQueue_of_room (by simp [hqueue]) (by simp [hqueue]), hqueue]; rfl
    unfold join
    rw [hjoined]
    refine tryBegin_of_waiting (p := withQueue [f] p) hquiet rfl (fun g hg => ?_) hown
    rw [List.mem_singleton.1 hg]; exact hidle

/-! ## A frame sent (O21) -/

theorem endSent_of_sending {r : Part} {a b : List TxFrame} {f : TxFrame} (hqueue : r.port.queue = a ++ f :: b)
    (hidle : ∀ g ∈ a, g.sending = false) (hsending : f.sending = true) :
    endSent r = { count .frameSent r with port := { (count .frameSent r).port with queue := a ++ b } } := by
  unfold endSent sendingFrame
  rw [hqueue, find_first hidle hsending, eraseP_first hidle hsending]
  rfl

theorem endOf_of_waiting {p : Part} (h : NoRestart p ∨ ∃ g ∈ p.port.queue, g.restartReply = true) : endOf p = drive p := by
  rcases h with hnone | hqueued
  · exact endOf_of_noRestart hnone
  · exact endOf_of_queued (List.any_eq_true.2 hqueued)

/-- An event that leaves the waiting restart's reply in the queue no longer performs the restart (R192). -/
theorem takes_of_left {c : Instr} {s : State} {q : Part} (htakes : Takes c s (endOf q)) (hpending : q.responder.pendingRestart = true)
    (hleft : ∀ g ∈ q.port.queue, g.restartReply = false) (hreset : q.pins.resetInput = false) :
    Takes c s
      (drive
        { Part.reset with
          port := { LinePort.reset with waitQuiet := onLine q }, sampling := Sampling.reset q.sampling.factory,
          sequencer := { Sequencer.reset with platen := if q.pins.openSensor then .opened else .opening },
          monitor :=
            { counters := q.monitor.counters, controls := q.monitor.controls.map (fun t => { t with memory := false }),
              frozen := none, snapshot := none },
          log := q.log, loader := { Loader.reset with phase := .crystal, straps := q.pins.straps }, pins := q.pins }) := by
  rw [endOf_of_left hpending (List.any_eq_false.2 fun g hg => by simp [hleft g hg])] at htakes
  unfold restarted at htakes
  simpa only [hreset, and_true, Bool.false_eq_true, if_false] using htakes

/-- Settles O21: the frame leaves, and the end of the event is that of a restart that waits, or not, for a reply still queued. -/
theorem frameSentLeavesAndRestarts : Obligations.FrameSentLeavesAndRestarts := by
  rintro s r q a b f hr hqueue hidle hsending rfl
  have hsent := takes_of_kept (c := .frameSent) rfl hr (endSent_of_sending hqueue hidle hsending)
  refine ⟨hsent, fun hwaits => ?_, fun hpending hleft hreset => ?_⟩
  · rwa [endOf_of_waiting hwaits] at hsent
  · exact takes_of_left hsent hpending hleft hreset

/-! ## Mismatches and expiries (O22) -/

/-- The transmission ends unsent: the frame stays, no longer in transmission, or leaves where it has expired (R18, R21). -/
theorem endUnsent_of_sending {r : Part} {a b : List TxFrame} {f : TxFrame} (hqueue : r.port.queue = a ++ f :: b)
    (hidle : ∀ g ∈ a ++ b, g.sending = false) (hsending : f.sending = true) :
    endUnsent r =
      if expired f || f.lapsed then count .txDropped { r with port := { r.port with queue := a ++ b } }
      else { r with port := { r.port with queue := a ++ { f with sending := false } :: b } } := by
  have hbefore : ∀ g ∈ a, g.sending = false := fun g hg => hidle g (List.mem_append_left b hg)
  have hstay {l : List TxFrame} (hl : ∀ g ∈ l, g.sending = false) : l.map (fun x => { x with sending := false }) = l := by
    refine (List.map_congr_left fun x hx => ?_).trans (List.map_id l)
    rw [← hl x hx]; rfl
  unfold endUnsent sendingFrame
  rw [hqueue, find_first hbefore hsending, eraseP_first hbefore hsending, List.map_append, List.map_cons, hstay hbefore,
    hstay fun g hg => hidle g (List.mem_append_right a hg)]
  rfl

section

variable {r : Part} {f : TxFrame} {own : BitVec 5} {bit : Nat}

theorem loseArbitration_of_at (hown : ownStation r = some own) (hf : sendingFrame r = some f) (hbit : bit < 21)
    (hrecessive : (wireBits (builtFrame own f)).getD bit false = true) :
    loseArbitration bit r = count .arbLost (startReception (endUnsent r)) := by
  unfold loseArbitration
  rw [hown, hf]
  exact if_pos (by rw [arbitrationAt, hrecessive, Bool.and_true]; exact decide_eq_true hbit)

theorem meetClash_of_at (hown : ownStation r = some own) (hf : sendingFrame r = some f)
    (hbit : bit < (wireBits (builtFrame own f)).length)
    (hother : 21 ≤ bit ∨ (wireBits (builtFrame own f)).getD bit false = false) :
    meetClash bit r = countClash (endUnsent r) := by
  have hnot : arbitrationAt own f bit = false := by
    unfold arbitrationAt
    rcases hother with hpast | hdominant
    · rw [decide_eq_false (show ¬bit < arbitrationBits from Nat.not_lt.2 hpast)]; rfl
    · rw [hdominant, Bool.and_false]
  unfold meetClash
  rw [hown, hf]
  exact if_pos (by rw [clashAt, hnot, decide_eq_true hbit]; rfl)

end

theorem countClash_eq (e : Part) :
    countClash e =
      raiseIf (decide (3 ≤ e.port.clashCount + 1)) .stationClash
        { e with port := { e.port with clashCount := min 255 (e.port.clashCount + 1), waitQuiet := true } } := by
  have hthird : (3 ≤ min 255 (e.port.clashCount + 1)) = (3 ≤ e.port.clashCount + 1) := propext (by omega)
  unfold countClash
  simp only [hthird]

/-- Settles O22: what each mismatch and the expiry find in transmission, or oldest, is the frame named. -/
theorem mismatchAndExpiry : Obligations.MismatchAndExpiry := by
  intro s r a b f hr hqueue
  refine ⟨fun own bit e hown hsending hidle he => ?_, fun holder hreply hfresh => ?_⟩
  · have hf : sendingFrame r = some f := by
      unfold sendingFrame; rw [hqueue]
      exact find_first (fun g hg => hidle g (List.mem_append_left b hg)) hsending
    have hunsent : endUnsent r = e := (endUnsent_of_sending hqueue hidle hsending).trans he.symm
    have hkept : e.sequencer = r.sequencer ∧ e.pins = r.pins ∧ e.loader = r.loader ∧ e.port.clashCount = r.port.clashCount := by
      rw [he]; split <;> simp
    obtain ⟨hsequencer, hpins, hloader, hclashes⟩ := hkept
    refine ⟨fun hbit hrecessive => ?_, fun hbit hother => ?_⟩
    · exact takes_of_kept rfl hr ((loseArbitration_of_at hown hf hbit hrecessive).trans (by rw [hunsent]; rfl))
        (by simp [hsequencer]) (by simp [hpins]) (by simp [hloader])
    · exact takes_of_kept rfl hr ((meetClash_of_at hown hf hbit hother).trans (by rw [hunsent, countClash_eq, hclashes]))
        (by simp [hsequencer]) (by simp [hpins]) (by simp [hloader])
  · have holder' : ∀ g ∈ a, freshReply g = false := fun g hg =>
      Bool.eq_false_of_not_eq_true fun h => holder g hg (by simpa [freshReply] using h)
    have hf : freshReply f = true := by rw [freshReply, hreply, hfresh]; rfl
    have hexpire : expireReply r =
        if f.sending then { r with port := { r.port with queue := a ++ { f with lapsed := true } :: b } }
        else count .txDropped { r with port := { r.port with queue := a ++ b } } := by
      unfold expireReply
      rw [hqueue, find_first holder' hf, eraseP_first holder' hf, updateFirst_append holder' hf]
      rfl
    refine ⟨fun hidle => takes_of_kept rfl hr (hexpire.trans (if_neg (by rw [hidle]; exact Bool.false_ne_true))),
      fun hsending => takes_of_kept rfl hr (hexpire.trans (if_pos hsending))⟩

end Sys2Proof.Machine.Sending
end

section
/-! The receiving side of the line port: frames dropped, refused and discarded (O23), and those passed over (O24). -/

namespace Sys2Proof.Machine.Receiving

open Outcomes Sending

/-! ## Broken frames, marks and own frames (O23) -/

section

variable {r : Part}

theorem waitQuiet_of_listening (hlistening : listening r = true) : r.port.waitQuiet = false := by
  simp only [listening, Bool.and_eq_true, Bool.not_eq_true'] at hlistening; exact hlistening.2

theorem arrivalOfBits_of_listening (hlistening : listening r = true) (bits : List Bool) :
    arrivalOfBits bits r =
      takeBits (receiveBits bits) (if receiveBits bits = .bad .earlyQuiet then endReception r else lineBusy r) := if_pos hlistening

/-- A broken frame is counted; the line that cut it short was declared quiet, and after broken stuffing or a length above 32 the
receiver waits for quiet (R3, R5, R23). -/
theorem takeBits_bad (hlistening : listening r = true) (why : BadFrame) :
    takeBits (.bad why) (if Reception.bad why = .bad .earlyQuiet then endReception r else lineBusy r) =
      count .frameBadCheck
        { r with
          port :=
            { r.port with
              quiet := r.port.quiet && decide (why = .earlyQuiet), receiving := false,
              waitQuiet := decide (why = .brokenStuffing ∨ why = .tooLong) } } := by
  have hwait := waitQuiet_of_listening hlistening
  cases why <;> simp [takeBits, lineBusy, endReception, awaitQuiet, hwait]

theorem takeMark_refused (hlistening : listening r = true) {mark : Byte} (hrefused : markAccepted (markTolerance (cfg r)) mark = false) :
    takeMark mark r = awaitQuiet (lineBusy r) := by
  unfold takeMark
  rw [if_pos hlistening]
  exact if_neg (by rw [show markAccepted (markTolerance (cfg (lineBusy r))) mark = false from hrefused]; exact Bool.false_ne_true)

theorem takeOwnFrame_of_listening (hlistening : listening r = true) (hown : (ownStation r).isSome = true) :
    takeOwnFrame r = raise .stationClash (lineBusy r) := by
  unfold takeOwnFrame
  rw [if_pos hlistening]; exact if_pos hown

theorem arrival_of_deaf (hdeaf : listening r = false) (h : Header) (f : Part → Part) : arrival h f r = r := by
  unfold arrival; rw [hdeaf]; rfl

end

/-- Each request of the summary is taken as a frame, by some handling of its payload (R11, R189). -/
theorem request_arrives {x : RequestRow} (hx : x ∈ requestRows) (h : Header) (bytes : List Byte) :
    ∃ f, ∀ s, exec (x.command h bytes) s = run (arrival h f) s := by
  unfold requestRows at hx
  simp only [List.mem_cons, List.not_mem_nil, or_false] at hx
  rcases hx with rfl | rfl | rfl | rfl | rfl | rfl | rfl | rfl | rfl | rfl | rfl | rfl | rfl | rfl | rfl | rfl | rfl | rfl | rfl | rfl
  all_goals exact ⟨_, fun s => rfl⟩

/-- Each frame of another kind is taken by some handling of its payload (R25). -/
theorem frame_arrives {frame : Header → List Byte → Instr}
    (hframe : frame ∈ [Instr.rowVerdict, .sealReport, .voidNotice, .drawNotice, .lineStateStop, .lineStateRun, .serviceReply,
      .serviceRequestNotAddressed]) (h : Header) (bytes : List Byte) :
    ∃ f, ∀ s, exec (frame h bytes) s = run (arrival h f) s := by
  simp only [List.mem_cons, List.not_mem_nil, or_false] at hframe
  rcases hframe with rfl | rfl | rfl | rfl | rfl | rfl | rfl | rfl
  all_goals exact ⟨_, fun s => rfl⟩

/-- Settles O23: while the port listens each broken frame is its own branch; while it does not, no frame is taken in. -/
theorem badFramesAreOnlyCounted : Obligations.BadFramesAreOnlyCounted := by
  refine fun s r hr => ⟨fun hlistening => ⟨fun bits why hbad => ?_, fun bits f hwhole hzero => ?_, fun mark hrefused => ?_, fun hown => ?_⟩,
    fun hdeaf => ⟨fun bits => ?_, fun hbegun mark => ?_, ?_, fun h bytes => ?_⟩⟩
  · refine takes_of_kept rfl hr ((arrivalOfBits_of_listening hlistening bits).trans ?_)
    rw [hbad]; exact takeBits_bad hlistening why
  · refine takes_of_kept rfl hr ((arrivalOfBits_of_listening hlistening bits).trans ?_)
    rw [hwhole, if_neg Reception.noConfusion]
    exact if_pos hzero
  · exact takes_of_kept rfl hr (takeMark_refused hlistening hrefused)
  · exact takes_of_kept rfl hr (takeOwnFrame_of_listening hlistening hown)
  · exact takes_of_kept rfl hr (if_neg (by rw [hdeaf]; exact Bool.false_ne_true))
  · refine takes_of_kept rfl hr ?_
    show takeMark mark r = r
    unfold takeMark; rw [hdeaf]; exact if_neg hbegun
  · exact takes_of_kept rfl hr (if_neg (by rw [hdeaf]; exact Bool.false_ne_true))
  · have hignored {c : Instr} {f : Part → Part} (hc : exec c s = run (arrival h f) s) : Takes c s (endOf r) :=
      takes_of_kept hc hr (arrival_of_deaf hdeaf h f)
    refine ⟨fun frame hframe => ?_, fun kind => hignored rfl, fun code => hignored rfl, fun x hx => ?_⟩
    · obtain ⟨f, hf⟩ := frame_arrives hframe h bytes
      exact hignored (hf s)
    · obtain ⟨f, hf⟩ := request_arrives hx h bytes
      exact hignored (hf s)

/-! ## Frames passed over (O24) -/

theorem takeServiceRequest_of_other {r : Part} {target : Byte} (h : Header) (code : Byte) (args : List Byte)
    (hother : ∀ own, ownStation r = some own → target.toNat ≠ own.toNat) :
    takeServiceRequest h (target :: code :: args) r = r := by
  unfold takeServiceRequest
  cases hown : ownStation r with
  | none => rfl
  | some own => exact if_neg (hother own hown)

theorem takeServiceRequest_of_short {r : Part} {payload : List Byte} (h : Header) (hshort : payload.length < 2) :
    takeServiceRequest h payload r = count .oddCode r := by
  match payload, hshort with
  | [], _ => rfl
  | [_], _ => rfl

theorem dispatch_of_unknown {kind : Nat} (h : Header) (payload : List Byte) (r : Part) (hkind : kind ∉ [2, 4, 6, 7, 10, 20, 21]) :
    dispatch kind h payload r = count .oddCode r := by
  unfold dispatch
  split
  iterate 7 exact absurd (by decide) hkind
  rfl

/-- Settles O24, each frame by its kind. -/
theorem framesPassedOver : Obligations.FramesPassedOver := by
  refine fun s h r hr => ⟨fun payload => ?_, fun target code args hother => ?_, fun payload hshort => ?_, fun kind payload hkind => ?_⟩
  · exact takes_of_heard rfl hr rfl
  · exact takes_of_heard rfl hr (takeServiceRequest_of_other h code args hother)
  · exact takes_of_heard rfl hr (takeServiceRequest_of_short h hshort)
  · exact takes_of_heard rfl hr (dispatch_of_unknown h payload r hkind)

end Sys2Proof.Machine.Receiving
end

section
/-! A frame's header as evidence (O25, O26): the alignment candidate while no H is held, the skew candidate while one is. -/

namespace Sys2Proof.Machine.Evidence

variable {h : Header} {p : Part}

/-- The part with the quiet count started again by a frame with a position (R49). -/
def heardPosition (p : Part) : Part := { p with tracker := { p.tracker with quietCount := 0 } }

theorem takeEvidence_of_nowhere (hposition : h.position = 255) : takeEvidence h p = p := if_pos hposition

theorem takeEvidence_of_position (hposition : h.position ≠ 255) :
    takeEvidence h p =
      match (heardPosition p).tracker.h with
      | some head => takeSkew head (tagDiff head (impliedHead (cfg p) h)) (heardPosition p)
      | none =>
        if p.control.mode = .seek then takeCandidate (impliedHead (cfg p) h) (heardPosition p) else heardPosition p :=
  if_neg hposition

/-! ## No H (O25) -/

section

variable (hposition : h.position ≠ 255) (hnone : p.tracker.h = none)
include hposition hnone

theorem takeEvidence_of_seek (hmode : p.control.mode = .seek) :
    takeEvidence h p = takeCandidate (impliedHead (cfg p) h) (heardPosition p) := by
  rw [takeEvidence_of_position hposition, show (heardPosition p).tracker.h = none from hnone]
  exact if_pos hmode

theorem takeEvidence_outside_seek (hmode : p.control.mode ≠ .seek) : takeEvidence h p = heardPosition p := by
  rw [takeEvidence_of_position hposition, show (heardPosition p).tracker.h = none from hnone]
  exact if_neg hmode

end

theorem nextCandidate_eq (t : Tracker) (i : Tag) :
    nextCandidate t i =
      { t with candidate := some i, candidateCount := if t.candidate = some i then t.candidateCount + 1 else 1 } := by
  unfold nextCandidate
  split
  next hsame => rw [← hsame]
  · rfl

theorem takeCandidate_below {i : Tag} (hbelow : (nextCandidate p.tracker i).candidateCount < (cfg p).evidence) :
    takeCandidate i p = { p with tracker := nextCandidate p.tracker i } :=
  if_neg (Nat.not_le.2 hbelow)

theorem takeCandidate_reached {i : Tag} (hreached : (cfg p).evidence ≤ (nextCandidate p.tracker i).candidateCount) :
    takeCandidate i p = enterAligned (alignAt i { p with tracker := nextCandidate p.tracker i }) :=
  if_pos hreached

/-- At alignment the mode is set, and the regulator and the sequencer's timers follow it; nothing else changes (R157). -/
theorem enterAligned_gives (q : Part) :
    (enterAligned q).control = { q.control with mode := if q.control.lineStop ∨ q.control.operatorHold then .hold else .run } ∧
      (enterAligned q).tracker = q.tracker ∧ (enterAligned q).sequencer.platen = q.sequencer.platen ∧
      (enterAligned q).port = q.port ∧ (enterAligned q).sampling = q.sampling ∧ (enterAligned q).dose = q.dose ∧
      (enterAligned q).monitor = q.monitor ∧ (enterAligned q).log = q.log ∧ (enterAligned q).loader = q.loader ∧
      (enterAligned q).pins = q.pins := by
  unfold enterAligned
  by_cases hflag : q.control.lineStop ∨ q.control.operatorHold
  · rw [if_pos (by simpa using hflag), if_pos hflag, setMode_platen]
    exact ⟨rfl, rfl, rfl, rfl, rfl, rfl, rfl, rfl, rfl, rfl⟩
  · rw [if_neg (by simpa using hflag), if_neg hflag, setMode_platen]
    exact ⟨rfl, rfl, rfl, rfl, rfl, rfl, rfl, rfl, rfl, rfl⟩

/-- Settles O25: evidence counts the candidate, and the count that reaches N aligns. -/
theorem evidenceAligns : Obligations.EvidenceAligns := by
  rintro h p i n hnone hi hn
  obtain rfl : i = impliedHead (cfg p) h := hi
  have hcandidate : nextCandidate (heardPosition p).tracker (impliedHead (cfg p) h) =
      { p.tracker with quietCount := 0, candidate := some (impliedHead (cfg p) h), candidateCount := n } := by
    rw [nextCandidate_eq, hn]; rfl
  have hcount : (nextCandidate (heardPosition p).tracker (impliedHead (cfg p) h)).candidateCount = n := by rw [hcandidate]
  refine ⟨takeEvidence_of_nowhere, fun hposition hmode => takeEvidence_outside_seek hposition hnone hmode,
    fun hposition hmode hbelow => ?_, fun hposition hmode hreached => ?_⟩
  · rw [takeEvidence_of_seek hposition hnone hmode, takeCandidate_below (hcount ▸ hbelow), hcandidate]; rfl
  · rw [takeEvidence_of_seek hposition hnone hmode, takeCandidate_reached (hcount ▸ hreached), hcandidate]
    obtain ⟨hcontrol, htracker, hplaten, hport, hsampling, hdose, hmonitor, hlog, hloader, hpins⟩ :=
      enterAligned_gives (alignAt (impliedHead (cfg p) h)
        { heardPosition p with
          tracker := { p.tracker with quietCount := 0, candidate := some (impliedHead (cfg p) h), candidateCount := n } })
    refine ⟨htracker.trans ?_, hcontrol, hplaten, hport, hsampling, hdose, hmonitor, hlog, hloader, hpins⟩
    unfold alignAt freshQueue windowTags
    rw [List.map_map]
    rfl

/-! ## H held (O26) -/

theorem takeEvidence_of_held {head : Tag} (hposition : h.position ≠ 255) (hheld : p.tracker.h = some head) :
    takeEvidence h p = takeSkew head (tagDiff head (impliedHead (cfg p) h)) (heardPosition p) := by
  rw [takeEvidence_of_position hposition, show (heardPosition p).tracker.h = some head from hheld]

/-- Skew evidence is counted, and the part stands with the candidate emptied for the decision (R42, R43). -/
def countedSkew (p : Part) : Part := count .skewEvidence { p with tracker := { p.tracker with quietCount := 0, skew := none } }

section

variable {head : Tag} {d : Int} (hd : d ≠ 0)
include hd

theorem takeSkew_below (hbelow : (nextSkew p.tracker.skew d head).count < (cfg p).evidence) :
    takeSkew head d (heardPosition p) =
      { countedSkew p with tracker := { (countedSkew p).tracker with skew := some (nextSkew p.tracker.skew d head) } } := by
  unfold takeSkew
  rw [if_neg hd]
  exact if_neg (Nat.not_le.2 hbelow)

theorem takeSkew_reached (hreached : (cfg p).evidence ≤ (nextSkew p.tracker.skew d head).count) :
    takeSkew head d (heardPosition p) =
      decideRealignment { d := (nextSkew p.tracker.skew d head).d, hFirst := (nextSkew p.tracker.skew d head).hFirst }
        (countedSkew p) := by
  unfold takeSkew
  rw [if_neg hd]
  exact if_pos hreached

end

theorem nextSkew_d (s : Option Skew) (d : Int) (head : Tag) : (nextSkew s d head).d = d := by
  unfold nextSkew; split
  · split
    · assumption
    · rfl
  · rfl

/-- In CLOSING, DWELL and OPENING a decided realignment is held pending, with the H_first of one that was pending (R43). -/
theorem decideRealignment_away {r : Realignment} (hopened : p.sequencer.platen ≠ .opened) (hsettle : p.sequencer.platen ≠ .settle)
    (hskew : p.tracker.skew = none) :
    decideRealignment r p =
      { p with
        tracker :=
          { p.tracker with
            pendingRealign := some { d := r.d, hFirst := (p.tracker.pendingRealign.map Realignment.hFirst).getD r.hFirst } } } := by
  unfold decideRealignment
  dsimp only
  rw [← hskew]
  split
  next hplaten => exact absurd hplaten hopened
  next hplaten => exact absurd hplaten hsettle
  · cases p.tracker.pendingRealign <;> rfl

theorem decideRealignment_at_once {r : Realignment} (hplaten : p.sequencer.platen = .opened ∨ p.sequencer.platen = .settle)
    (hskew : p.tracker.skew = none) : decideRealignment r p = applyRealignment r p := by
  unfold decideRealignment
  dsimp only
  rw [← hskew]
  rcases hplaten with hplaten | hplaten <;> rw [hplaten]

theorem applyRealignment_of_held {r : Realignment} {head : Tag} (hheld : p.tracker.h = some head) :
    applyRealignment r p = count .realign (raise .realigned (send (realignNotice (cfg p) head r) (moveQueue head r.d p))) := by
  unfold applyRealignment; rw [hheld]

/-- The queue of the new window, record by record (R44). -/
theorem moveQueue_eq (head : Tag) (d : Int) :
    moveQueue head d p =
      { p with
        tracker :=
          { p.tracker with
            h := some (tagAdd head d), skew := none, pendingRealign := none,
            records :=
              (List.range 48).map fun m => realignedRecord (cfg p) p.tracker.records (tagAdd head d + BitVec.ofNat 16 m) } } := by
  unfold moveQueue windowTags; rw [List.map_map]; rfl

/-- Settles O26: the skew candidate by its count, and the realignment by the platen state. -/
theorem evidenceRealigns : Obligations.EvidenceRealigns := by
  rintro h p q head i d x hheld hposition hi hd hx rfl
  obtain rfl : i = impliedHead (cfg p) h := hi
  obtain rfl : d = tagDiff head (impliedHead (cfg p) h) := hd
  have hskew : x = nextSkew p.tracker.skew (tagDiff head (impliedHead (cfg p) h)) head := by
    rw [hx]; unfold nextSkew
    cases hold : p.tracker.skew with
    | none => rfl
    | some y =>
      dsimp only
      by_cases hsame : y.d = tagDiff head (impliedHead (cfg p) h)
      · rw [if_pos hsame, if_pos hsame, ← hsame]
      · rw [if_neg hsame, if_neg hsame]
  rw [takeEvidence_of_held hposition hheld]
  refine ⟨fun hzero => ?_, fun hd hbelow => ?_, fun hd hreached hopened hsettle => ?_, fun hd hreached hplaten => ?_⟩
  · exact if_pos hzero
  · rw [hskew] at hbelow ⊢
    exact takeSkew_below hd hbelow
  · rw [hskew] at hreached ⊢
    rw [takeSkew_reached hd hreached, decideRealignment_away (p := countedSkew p) hopened hsettle rfl, nextSkew_d]
    rfl
  · rw [hskew] at hreached ⊢
    rw [takeSkew_reached hd hreached, decideRealignment_at_once (p := countedSkew p) hplaten rfl, nextSkew_d]
    rw [applyRealignment_of_held (p := countedSkew p) hheld, moveQueue_eq]
    rfl

end Sys2Proof.Machine.Evidence
end

section
/-! Statements, reports and notices filed (O27, O28, O29): the window decode, the record that a tag names, the lanes one by one, and the
draw table. -/

namespace Sys2Proof.Machine.Filing

open Outcomes DrawTable

/-! ## The window decode (R55) -/

section

variable {p : Part} {t head : Tag}

theorem decodeTag_absent (hnone : p.tracker.h = none) : decodeTag p t = .absent := by unfold decodeTag; rw [hnone]

theorem decodeTag_of_held (hheld : p.tracker.h = some head) :
    decodeTag p t =
      if tagDiff head t < 0 then .late
      else if 47 < tagDiff head t then .beyond
      else if t = head ∧ headFrozen p then .late
      else .applied := by
  unfold decodeTag; rw [hheld]

theorem tagDiff_self (t : Tag) : tagDiff t t = 0 := by unfold tagDiff; rw [BitVec.sub_self]; rfl

theorem decodeTag_late (hheld : p.tracker.h = some head) (hlate : tagDiff head t < 0 ∨ t = head ∧ headFrozen p = true) :
    decodeTag p t = .late := by
  rw [decodeTag_of_held hheld]
  rcases hlate with hbelow | ⟨rfl, hfrozen⟩
  · exact if_pos hbelow
  · rw [tagDiff_self, if_neg (by decide), if_neg (by decide)]; exact if_pos ⟨rfl, hfrozen⟩

theorem decodeTag_beyond (hheld : p.tracker.h = some head) (habove : 47 < tagDiff head t) : decodeTag p t = .beyond := by
  rw [decodeTag_of_held hheld, if_neg (by omega), if_pos habove]

theorem decodeTag_applied (hheld : p.tracker.h = some head) (hlow : 0 ≤ tagDiff head t) (hhigh : tagDiff head t ≤ 47)
    (hopen : ¬(t = head ∧ headFrozen p = true)) : decodeTag p t = .applied := by
  rw [decodeTag_of_held hheld, if_neg (by omega), if_neg (by omega)]; exact if_neg hopen

end

/-! ## The record that a tag names -/

section

variable {p : Part} {t : Tag} {a b : List RowRecord} {row : RowRecord}

theorem recordOf_unique (hrecords : p.tracker.records = a ++ row :: b) (hrow : row.tag = t) (hother : ∀ x ∈ a ++ b, x.tag ≠ t) :
    recordOf p t = some row := by
  unfold recordOf
  rw [hrecords]
  exact find_first (fun x hx => by simpa using hother x (List.mem_append_left b hx)) (by simp [hrow])

theorem updateRecord_unique (f : RowRecord → RowRecord) (hrow : row.tag = t) (hother : ∀ x ∈ a ++ b, x.tag ≠ t) :
    updateRecord t f (a ++ row :: b) = a ++ f row :: b := by
  have hkept {l : List RowRecord} (hl : ∀ x ∈ l, x.tag ≠ t) : l.map (fun r => if r.tag = t then f r else r) = l :=
    (List.map_congr_left fun x hx => if_neg (hl x hx)).trans (List.map_id l)
  unfold updateRecord
  rw [List.map_append, List.map_cons, if_pos hrow, hkept fun x hx => hother x (List.mem_append_left b hx),
    hkept fun x hx => hother x (List.mem_append_right a hx)]

end

/-! ## Lanes one by one -/

/-- A list given place by place from another is that one through the function of place and element. -/
theorem eq_mapIndexed {α β : Type} {f : Nat → α → β} {l : List α} {m : List β} (hlength : m.length = l.length)
    (heach : ∀ c e g, l[c]? = some e → m[c]? = some g → g = f c e) : m = mapIndexed f l := by
  refine List.ext_getElem? fun c => ?_
  rw [mapIndexed_getElem?]
  by_cases hc : c < l.length
  · rw [List.getElem?_eq_getElem hc, List.getElem?_eq_getElem (hlength ▸ hc)]
    exact congrArg some (heach c _ _ (List.getElem?_eq_getElem hc) (List.getElem?_eq_getElem _))
  · rw [List.getElem?_eq_none (Nat.not_lt.1 hc), List.getElem?_eq_none (hlength ▸ Nat.not_lt.1 hc)]; rfl

/-- Lanes that a list names are counted by their places (R53). -/
theorem countP_zip {α β : Type} (t : α → β → Bool) (xs : List α) (ys : List β) :
    (xs.zip ys).countP (fun x => t x.1 x.2) =
      (List.range ys.length).countP (fun c => match xs[c]?, ys[c]? with
        | some x, some y => t x y
        | _, _ => false) := by
  induction ys generalizing xs with
  | nil => simp
  | cons y ys ih =>
    rw [List.length_cons, List.range_succ_eq_map, List.countP_cons, List.countP_map]
    cases xs with
    | nil => simp [Function.comp_def]
    | cons x xs =>
      rw [List.zip_cons_cons, List.countP_cons, ih xs]
      rfl

theorem applyCodes_getElem? (role : Role) (codes : List Nat) (lanes : List LaneEntry) (c : Nat) :
    (applyCodes role codes lanes)[c]? =
      lanes[c]?.map fun e => match codes[c]? with
        | some n => applyCode role n e
        | none => e := by
  induction codes generalizing lanes c with
  | nil => cases lanes <;> simp [applyCodes]
  | cons n codes ih =>
    cases lanes with
    | nil => simp [applyCodes]
    | cons e lanes => cases c <;> simp [applyCodes, ih]

theorem applyReportLanes_getElem? (j : Nat) (xs : List ReceivedLane) (lanes : List LaneEntry) (c : Nat) :
    (applyReportLanes j xs lanes)[c]? =
      lanes[c]?.map fun e => match xs[c]? with
        | some x => applyReportLane j x e
        | none => e := by
  induction xs generalizing lanes c with
  | nil => cases lanes <;> simp [applyReportLanes]
  | cons x xs ih =>
    cases lanes with
    | nil => simp [applyReportLanes]
    | cons e lanes => cases c <;> simp [applyReportLanes, ih]

theorem length_eq_of_getElem? {α β : Type} {l : List α} {m : List β} {f : Nat → α → β} (h : ∀ c, m[c]? = l[c]?.map (f c)) :
    m.length = l.length := by
  have hm : m = mapIndexed f l := List.ext_getElem? fun c => by rw [mapIndexed_getElem?, h c]
  rw [hm, mapIndexed_length]

/-! ## ROW VERDICT (O27) -/

theorem fillsField_iff (role : Role) : fillsField role = true ↔ role = .form ∨ role = .load ∨ role = .card := by
  cases role <;> decide

/-- A code applied to the field of its role, as R57 and R58 give it for the three roles at once. -/
theorem applyCode_eq {role : Role} (hfills : role = .form ∨ role = .load ∨ role = .card) (n : Nat) (e : LaneEntry) :
    applyCode role n e =
      { e with
        formed := if role = .form then (formedOf n).or e.formed else e.formed,
        load := if role = .load then (loadOf n).or e.load else e.load,
        card := if role = .card then (cardOf n).or e.card else e.card } := by
  rcases hfills with rfl | rfl | rfl <;> rfl

section

variable {h : Header} {payload : List Byte} {r : Part}

theorem takeRowVerdict_of_read {v : RowVerdict} (hread : readRowVerdict payload = some v)
    (hfills : h.role = .form ∨ h.role = .load ∨ h.role = .card) :
    takeRowVerdict h payload r = fileStatement v.tag (applyVerdict h.role v) r := by
  unfold takeRowVerdict; rw [hread]; exact if_pos ((fillsField_iff _).2 hfills)

theorem takeRowVerdict_passed {v : RowVerdict} (hread : readRowVerdict payload = some v)
    (hpassed : h.role ≠ .form ∧ h.role ≠ .load ∧ h.role ≠ .card ∨ r.tracker.h = none) : takeRowVerdict h payload r = r := by
  unfold takeRowVerdict
  rw [hread]
  dsimp only
  split
  next hfills =>
    rcases hpassed with ⟨hform, hload, hcard⟩ | hnone
    · rcases (fillsField_iff _).1 hfills with hrole | hrole | hrole
      exacts [absurd hrole hform, absurd hrole hload, absurd hrole hcard]
    · unfold fileStatement; rw [decodeTag_absent hnone]
  · rfl

theorem takeRowVerdict_malformed (hread : readRowVerdict payload = none) : takeRowVerdict h payload r = count .oddCode r := by
  unfold takeRowVerdict; rw [hread]

end

/-- Settles O27: the verdict by its reading and its role, its tag by the decode, and the record's lanes by their codes. -/
theorem rowVerdictIsFiled : Obligations.RowVerdictIsFiled := by
  refine fun s h payload r hr => ⟨fun hread => takes_of_heard rfl hr (takeRowVerdict_malformed hread), fun v hread =>
    ⟨fun hpassed => takes_of_heard rfl hr (takeRowVerdict_passed hread hpassed), fun hfills head hheld => ⟨fun hlate => ?_, fun habove => ?_,
      fun hlow hhigh hopen a b row lanes hrecords hrow hother hlength heach => ?_⟩⟩⟩
  · refine takes_of_heard rfl hr ((takeRowVerdict_of_read hread hfills).trans ?_)
    unfold fileStatement; rw [decodeTag_late hheld hlate]
  · refine takes_of_heard rfl hr ((takeRowVerdict_of_read hread hfills).trans ?_)
    unfold fileStatement; rw [decodeTag_beyond hheld habove]
  · have hlanes : lanes = applyCodes h.role v.codes row.lanes := by
      have hcodes : applyCodes h.role v.codes row.lanes = mapIndexed (fun c e => match v.codes[c]? with
          | some n => applyCode h.role n e
          | none => e) row.lanes :=
        List.ext_getElem? fun c => by rw [applyCodes_getElem?, mapIndexed_getElem?]
      rw [hcodes]
      refine eq_mapIndexed hlength fun c e f he hf => (heach c e f he hf).trans ?_
      cases v.codes[c]? with
      | none => rfl
      | some n => exact (applyCode_eq hfills n e).symm
    refine takes_of_heard rfl hr ((takeRowVerdict_of_read hread hfills).trans ?_)
    unfold fileStatement applyVerdict
    rw [decodeTag_applied hheld hlow hhigh hopen]
    dsimp only
    rw [recordOf_unique hrecords hrow hother]
    dsimp only
    rw [hrecords, updateRecord_unique _ hrow hother, hlanes]
    rfl

/-! ## Reports and notices by stage (O28) -/

section

variable {j : Nat} {upstream : Part → Part} {r : Part}

theorem byStage_passed {k : Configuration} (hk : r.loader.config = some k) (hbelow : k.stage < j) : byStage j upstream r = r := by
  unfold byStage; rw [hk]; dsimp only; rw [if_neg (by omega), if_neg (by omega)]

theorem cfg_of_config {k : Configuration} (hk : r.loader.config = some k) : cfg r = k := by unfold cfg; rw [hk]; rfl

theorem byStage_none (hnone : r.loader.config = none) : byStage j upstream r = r := by unfold byStage; rw [hnone]

theorem byStage_downstream (hbelow : (cfg r).stage < j) : byStage j upstream r = r := by
  cases hk : r.loader.config with
  | none => exact byStage_none hk
  | some k => exact byStage_passed hk (cfg_of_config hk ▸ hbelow)

theorem byStage_upstream (hconfig : r.loader.config ≠ none) (habove : j < (cfg r).stage) : byStage j upstream r = upstream r := by
  obtain ⟨k, hk⟩ := Option.ne_none_iff_exists'.1 hconfig
  unfold byStage; rw [hk]; exact if_pos (cfg_of_config hk ▸ habove)

theorem byStage_own (hconfig : r.loader.config ≠ none) (hown : j = (cfg r).stage) :
    byStage j upstream r = raise .stageConflict r := by
  obtain ⟨k, hk⟩ := Option.ne_none_iff_exists'.1 hconfig
  rw [cfg_of_config hk] at hown
  unfold byStage; rw [hk]; dsimp only; rw [if_neg (by omega), if_pos hown]

/-- What passes a report or a notice over: no configuration, a stage downstream, or no H at a stage upstream (R59, R61, R72). -/
theorem byStage_dropped (hdropped : r.loader.config = none ∨ (cfg r).stage < j ∨ j < (cfg r).stage ∧ r.tracker.h = none)
    (hnone : r.tracker.h = none → upstream r = r) : byStage j upstream r = r := by
  rcases hdropped with hconfig | hbelow | ⟨habove, hh⟩
  · exact byStage_none hconfig
  · exact byStage_downstream hbelow
  · by_cases hconfig : r.loader.config = none
    · exact byStage_none hconfig
    · rw [byStage_upstream hconfig habove, hnone hh]

end

section

variable {x : Contribution} {z : Contribution} {m n : List Contribution}

theorem putContribution_skip (hm : ∀ z ∈ m, z.stage < x.stage) : putContribution x (m ++ n) = m ++ putContribution x n := by
  induction m with
  | nil => rfl
  | cons y m ih =>
    have hy : y.stage < x.stage := hm y List.mem_cons_self
    rw [List.cons_append, putContribution, if_neg (by omega), if_neg (by omega), ih fun z hz => hm z (List.mem_cons_of_mem y hz)]
    rfl

theorem putContribution_replaces (hm : ∀ z ∈ m, z.stage < x.stage) (hz : z.stage = x.stage) :
    putContribution x (m ++ z :: n) = m ++ x :: n := by
  rw [putContribution_skip hm, putContribution, if_neg (by omega), if_pos hz.symm]

theorem putContribution_adds (hm : ∀ z ∈ m, z.stage < x.stage) (hn : ∀ z ∈ n, x.stage < z.stage) :
    putContribution x (m ++ n) = m ++ x :: n := by
  rw [putContribution_skip hm]
  cases n with
  | nil => rfl
  | cons y n => rw [putContribution, if_pos (hn y List.mem_cons_self)]

end

theorem contributionOf_isSome (e : LaneEntry) (j : Nat) :
    (contributionOf e j).isSome = e.contributions.any (fun z => z.stage == j) := by
  unfold contributionOf; rw [Bool.eq_iff_iff, List.find?_isSome, List.any_eq_true]

section

variable {h : Header} {payload : List Byte} {r : Part}

theorem takeSealReport_of_read {x : ReceivedReport} (hrole : h.role = .sealer) (hread : readSealReport payload = some x) :
    takeSealReport h payload r = byStage x.stage (fileStatement x.tag (applyReport x)) r := by
  unfold takeSealReport; rw [if_pos hrole, hread]

theorem takeVoidNotice_of_read {v : ReceivedVoid} (hrole : h.role = .sealer) (hread : readVoidNotice payload = some v) :
    takeVoidNotice h payload r = byStage v.stage (applyVoid v) r := by
  unfold takeVoidNotice; rw [if_pos hrole, hread]

end

/-- A report applied to the one record of its tag (R60). -/
theorem applyReport_unique {x : ReceivedReport} {r : Part} {a b : List RowRecord} {row : RowRecord}
    (hrecords : r.tracker.records = a ++ row :: b) (hrow : row.tag = x.tag) (hother : ∀ y ∈ a ++ b, y.tag ≠ x.tag) :
    applyReport x r =
      countTimes .oddCode (oddReportLanes x.lanes row.lanes)
        (countTimes .revised (revisedReportLanes x.stage x.lanes row.lanes)
          { r with
            tracker :=
              { r.tracker with
                records :=
                  a ++
                    { row with
                      upstreamVoided := row.upstreamVoided.filter (fun j => j ≠ x.stage),
                      lanes := applyReportLanes x.stage x.lanes row.lanes } :: b } }) := by
  have hfilter : row.upstreamVoided.filter (fun j => !(j == x.stage)) = row.upstreamVoided.filter (fun j => j ≠ x.stage) :=
    List.filter_congr fun j _ => (decide_not (p := j = x.stage)).symm
  unfold applyReport
  rw [recordOf_unique hrecords hrow hother]
  dsimp only
  rw [hrecords, updateRecord_unique _ hrow hother, hfilter]
  rfl

theorem oddReportLanes_eq (xs : List ReceivedLane) (lanes : List LaneEntry) :
    oddReportLanes xs lanes =
      (List.range lanes.length).countP (fun c => match xs[c]? with
        | some y => y.result.isNone
        | none => false) := by
  unfold oddReportLanes
  rw [countP_zip (fun (x : ReceivedLane) (_ : LaneEntry) => x.result.isNone)]
  refine List.countP_congr fun c hc => ?_
  rw [List.getElem?_eq_getElem (List.mem_range.1 hc)]
  cases xs[c]? <;> rfl

theorem revisedReportLanes_eq (j : Nat) (xs : List ReceivedLane) (lanes : List LaneEntry) :
    revisedReportLanes j xs lanes =
      (List.range lanes.length).countP (fun c => match xs[c]?, lanes[c]? with
        | some y, some e => y.result.isSome && e.contributions.any (fun z => z.stage == j)
        | _, _ => false) := by
  unfold revisedReportLanes
  simp only [contributionOf_isSome]
  refine (countP_zip (fun (x : ReceivedLane) (e : LaneEntry) => x.result.isSome && e.contributions.any (fun z => z.stage == j)) xs
    lanes).trans (List.countP_congr fun c _ => ?_)
  cases xs[c]? <;> cases lanes[c]? <;> rfl

/-- One lane of a report applied: the contributions alone change, at the stage's place in their order (R60). -/
theorem applyReportLane_gives (j : Nat) (y : ReceivedLane) (e : LaneEntry) :
    (y.result = none → applyReportLane j y e = e) ∧
      ∀ (v : Verdict) (why : Reason), y.result = some (v, why) →
        applyReportLane j y e = { e with contributions := putContribution ⟨j, y.dose, v, why⟩ e.contributions } := by
  unfold applyReportLane
  exact ⟨fun hnone => by rw [hnone], fun v why hsome => by rw [hsome]⟩

/-- The record is reached by the notice, as R62 says it. -/
theorem voidReaches_iff {r : Part} {head : Tag} {v : ReceivedVoid} {y : RowRecord} :
    voidReaches r head v y = true ↔
      (0 ≤ tagDiff head y.tag ∧ tagDiff head y.tag ≤ 47 ∧ ¬(y.tag = head ∧ headFrozen r = true)) ∧
        0 ≤ tagDiff v.first v.last ∧ (y.tag - v.first).toNat ≤ (v.last - v.first).toNat := by
  simp only [voidReaches, inSpan, inWindow, tagBetween, Bool.and_eq_true, Bool.not_eq_true', decide_eq_true_eq, and_assoc,
    ← Bool.not_eq_true]

section

variable {r : Part} {head : Tag} {v : ReceivedVoid} (hheld : r.tracker.h = some head)
include hheld

theorem applyVoid_reversed (hreversed : tagDiff v.first v.last < 0) : applyVoid v r = count .oddCode r := by
  unfold applyVoid; rw [hheld]; exact if_pos hreversed

theorem applyVoid_unreached (hordered : 0 ≤ tagDiff v.first v.last) (hnone : ∀ y ∈ r.tracker.records, ¬voidReaches r head v y = true) :
    applyVoid v r = count (if 47 < tagDiff head v.first then .frameBeyond else .frameLate) r := by
  unfold applyVoid
  rw [hheld]
  dsimp only
  rw [if_neg (by omega), if_neg (by simpa using hnone)]
  split <;> rfl

theorem applyVoid_reached (hsome : ∃ y ∈ r.tracker.records, voidReaches r head v y = true) :
    applyVoid v r =
      withRecords (r.tracker.records.map (fun y => if voidReaches r head v y then voidRecord v.stage y else y)) r := by
  obtain ⟨y, hy, hreached⟩ := hsome
  have hordered := (voidReaches_iff.1 hreached).2.1
  unfold applyVoid
  rw [hheld]
  dsimp only
  rw [if_neg (by omega), if_pos (List.any_eq_true.2 ⟨y, hy, hreached⟩)]

end

theorem voidRecord_eq (j : Nat) (y : RowRecord) :
    voidRecord j y =
      { y with
        upstreamVoided := insertStage j y.upstreamVoided,
        lanes := y.lanes.map (fun e => { e with contributions := e.contributions.filter (fun c => c.stage ≠ j) }) } := by
  have hfilter (cs : List Contribution) : cs.filter (fun c => !(c.stage == j)) = cs.filter (fun c => c.stage ≠ j) :=
    List.filter_congr fun c _ => (decide_not (p := c.stage = j)).symm
  unfold voidRecord
  simp only [hfilter]

/-- Settles O28: reports and notices by role, reading and stage; what goes on upstream by the decode and by the records reached. -/
theorem upstreamStagesAreFiled : Obligations.UpstreamStagesAreFiled := by
  refine fun s h payload r hr => ⟨fun hrole => ⟨takes_of_heard rfl hr (if_neg hrole), takes_of_heard rfl hr (if_neg hrole)⟩,
    fun hrole hread => ?_, fun hrole hread => ?_, fun hrole x hread => ?_, fun hrole v hread => ?_⟩
  · exact takes_of_heard rfl hr (show takeSealReport h payload r = _ by unfold takeSealReport; rw [if_pos hrole, hread])
  · exact takes_of_heard rfl hr (show takeVoidNotice h payload r = _ by unfold takeVoidNotice; rw [if_pos hrole, hread])
  · have htake := takeSealReport_of_read (r := r) hrole hread
    refine ⟨fun hdropped => ?_, fun hconfig habove head hheld => ⟨fun hlate => ?_, fun hbeyond => ?_⟩, fun hconfig hown => ?_,
      fun hconfig habove head hheld hlow hhigh hopen a b row hrecords hrow hother => ?_⟩
    · refine takes_of_heard rfl hr (htake.trans (byStage_dropped hdropped fun hnone => ?_))
      unfold fileStatement; rw [decodeTag_absent hnone]
    · refine takes_of_heard rfl hr (htake.trans ((byStage_upstream hconfig habove).trans ?_))
      unfold fileStatement; rw [decodeTag_late hheld hlate]
    · refine takes_of_heard rfl hr (htake.trans ((byStage_upstream hconfig habove).trans ?_))
      unfold fileStatement; rw [decodeTag_beyond hheld hbeyond]
    · exact takes_of_heard rfl hr (htake.trans (byStage_own hconfig hown))
    · refine ⟨applyReportLanes x.stage x.lanes row.lanes, oddReportLanes x.lanes row.lanes,
        revisedReportLanes x.stage x.lanes row.lanes, ?_, oddReportLanes_eq .., revisedReportLanes_eq ..,
        length_eq_of_getElem? (applyReportLanes_getElem? x.stage x.lanes row.lanes), fun c e f he hf => ?_⟩
      · refine takes_of_heard rfl hr (htake.trans ((byStage_upstream hconfig habove).trans ?_))
        unfold fileStatement
        rw [decodeTag_applied hheld hlow hhigh hopen]
        exact applyReport_unique hrecords hrow hother
      · rw [applyReportLanes_getElem?, he] at hf
        obtain rfl := Option.some.inj hf
        refine ⟨fun hnone => by rw [hnone], fun y hy => ?_⟩
        rw [hy]
        dsimp only
        obtain ⟨hnone, hsome⟩ := applyReportLane_gives x.stage y e
        refine ⟨hnone, fun v why hresult => ?_⟩
        rw [hsome v why hresult]
        refine ⟨rfl, fun m n hm => ⟨fun z hz hcontributions => ?_, fun hn hcontributions => ?_⟩⟩
        · rw [hcontributions]; exact putContribution_replaces hm hz
        · rw [hcontributions]; exact putContribution_adds hm hn
  · have htake := takeVoidNotice_of_read (r := r) hrole hread
    refine ⟨fun hdropped => ?_, fun hconfig hown => ?_, fun hconfig habove head reached hheld hreached => ?_⟩
    · refine takes_of_heard rfl hr (htake.trans (byStage_dropped hdropped fun hnone => ?_))
      unfold applyVoid; rw [hnone]
    · exact takes_of_heard rfl hr (htake.trans (byStage_own hconfig hown))
    · have hiff (y) : reached y ↔ voidReaches r head v y = true := (hreached y).trans voidReaches_iff.symm
      have happly := htake.trans (byStage_upstream (upstream := applyVoid v) hconfig habove)
      refine ⟨fun hreversed => ?_, fun hordered hnone => ?_, fun hsome => ?_⟩
      · exact takes_of_heard rfl hr (happly.trans (applyVoid_reversed hheld hreversed))
      · exact takes_of_heard rfl hr
          (happly.trans (applyVoid_unreached hheld hordered fun y hy => (hiff y).not.1 (hnone y hy)))
      · have hvoided := applyVoid_reached hheld (hsome.imp fun y hy => ⟨hy.1, (hiff y).1 hy.2⟩)
        refine ⟨_, takes_of_heard rfl hr (happly.trans hvoided), List.length_map .., fun n y z hy hz => ?_⟩
        rw [List.getElem?_map, hy] at hz
        obtain rfl := Option.some.inj hz
        exact ⟨fun hout => if_neg ((hiff y).not.1 hout), fun hin => (if_pos ((hiff y).1 hin)).trans (voidRecord_eq v.stage y)⟩

/-! ## The draw table (O29) -/

section

variable {d : Draw} {ds a b : List Draw} {e : Draw}

theorem enterDraw_known (hknown : ∃ e ∈ ds, e.station = d.station) :
    enterDraw d ds = ds.filter (fun e => e.station ≠ d.station) ++ [d] := by
  have hfilter : ds.filter (fun x => !(x.station == d.station)) = ds.filter (fun e => e.station ≠ d.station) :=
    List.filter_congr fun x _ => (decide_not (p := x.station = d.station)).symm
  unfold enterDraw
  rw [if_pos (by simpa using hknown), hfilter]

theorem enterDraw_new (hnew : ∀ e ∈ ds, e.station ≠ d.station) :
    enterDraw d ds =
      if ds.length < 16 then ds ++ [d]
      else if greatestAge ds = 0 then ds
      else ds.eraseP (fun x => x.age == greatestAge ds) ++ [d] := by
  unfold enterDraw
  rw [if_neg (by simpa using hnew)]

/-- The entry replaced is the first of the greatest age (R103). -/
theorem eraseP_greatest (ha : ∀ y ∈ a, y.age < e.age) (hb : ∀ y ∈ b, y.age ≤ e.age) :
    greatestAge (a ++ e :: b) = e.age ∧
      (a ++ e :: b).eraseP (fun x => x.age == greatestAge (a ++ e :: b)) = a ++ b := by
  have hgreatest : greatestAge (a ++ e :: b) = e.age := by
    refine Nat.le_antisymm (greatest_le fun y hy => ?_) (age_le_greatest (by simp))
    rcases List.mem_append.1 hy with hy | hy
    · exact (ha y hy).le
    · rcases List.mem_cons.1 hy with rfl | hy
      · exact Nat.le_refl _
      · exact hb y hy
  refine ⟨hgreatest, ?_⟩
  rw [hgreatest]
  exact eraseP_first (fun y hy => by simpa using (ha y hy).ne) (by simp)

end

theorem applyDraw_dropped {station : BitVec 5} {x : ReceivedDraw} {r : Part}
    (hdropped : r.loader.config = none ∨ x.feed ≠ (cfg r).feed) : applyDraw station x r = r := by
  unfold applyDraw
  cases hk : r.loader.config with
  | none => rfl
  | some k => exact if_neg (cfg_of_config hk ▸ hdropped.resolve_left (by rw [hk]; exact Option.some_ne_none k))

theorem applyDraw_own {station : BitVec 5} {x : ReceivedDraw} {r : Part} (hconfig : r.loader.config ≠ none)
    (hfeed : x.feed = (cfg r).feed) :
    applyDraw station x r =
      { r with regulator := { r.regulator with draws := enterDraw ⟨station, x.cls, x.demand, 0⟩ r.regulator.draws } } := by
  obtain ⟨k, hk⟩ := Option.ne_none_iff_exists'.1 hconfig
  unfold applyDraw; rw [hk]; exact if_pos (cfg_of_config hk ▸ hfeed)

/-- Settles O29: the notice by its length and feed, and the table by the four cases of `enterDraw`. -/
theorem drawNoticeEntersTheTable : Obligations.DrawNoticeEntersTheTable := by
  refine fun s h payload r hr => ⟨fun hlength => ?_, ?_⟩
  · have hread : readDrawNotice payload = none := if_neg hlength
    exact takes_of_heard rfl hr (show takeDrawNotice h payload r = _ by unfold takeDrawNotice; rw [hread])
  · rintro x d ds hread rfl rfl
    have htake : takeDrawNotice h payload r = applyDraw h.station x r := by unfold takeDrawNotice; rw [hread]
    refine ⟨fun hdropped => takes_of_heard rfl hr (htake.trans (applyDraw_dropped hdropped)), fun hconfig hfeed =>
      ⟨_, takes_of_heard rfl hr (htake.trans (applyDraw_own hconfig hfeed)), fun hknown => ?_, fun hnew => ?_⟩⟩
    · exact enterDraw_known (d := ⟨h.station, x.cls, x.demand, 0⟩) hknown
    · rw [enterDraw_new (d := ⟨h.station, x.cls, x.demand, 0⟩) hnew]
      refine ⟨fun hroom => if_pos hroom, fun hfull hages => ?_, fun hfull a b e hds hage ha hb => ?_⟩
      · have hzero : greatestAge r.regulator.draws = 0 := Nat.le_zero.1 (greatest_le fun x hx => (hages x hx).le)
        rw [if_neg (Nat.not_lt.2 hfull), if_pos hzero]
      · obtain ⟨hgreatest, herased⟩ := eraseP_greatest ha hb
        rw [if_neg (Nat.not_lt.2 hfull), hds, if_neg (by rw [hgreatest]; omega), herased]

end Sys2Proof.Machine.Filing
end

section
/-! The changes between RUN and HOLD said once as records (R158), the LINE STATE that brings them (O30), and the requests HOLD and
RELEASE (O35). -/

namespace Sys2Proof.Machine.ModeChanges

open Outcomes StartUp

/-! ## RUN and HOLD -/

/-- HOLD left for RUN: neither the idle flag and clock nor the listen count change (R95, R98). -/
theorem regulatorOnMode_hold_run (g : Regulator) : regulatorOnMode .hold .run g = g := by
  unfold regulatorOnMode
  simp [idleMode]

/-- The sequencer outside DRY, its dry timer stopped and no cycle held due (R128). -/
def offDry (q : Sequencer) : Sequencer := { q with dryTimer := none, dryDue := false }

variable (p : Part)

theorem runToHold_of_run (hmode : p.control.mode = .run) :
    runToHold p = { p with control := { p.control with mode := .hold }, sequencer := offDry p.sequencer } := by
  unfold runToHold
  rw [if_pos hmode]
  unfold setMode
  rw [hmode, regulatorOnMode_run_hold]
  rfl

theorem runToHold_of_other (hmode : p.control.mode ≠ .run) : runToHold p = p := if_neg hmode

theorem holdToRun_of_clear (hmode : p.control.mode = .hold) (hstop : p.control.lineStop = false)
    (hhold : p.control.operatorHold = false) :
    holdToRun p = { p with control := { p.control with mode := .run }, sequencer := offDry p.sequencer } := by
  unfold holdToRun
  rw [if_pos ⟨hmode, hstop, hhold⟩]
  unfold setMode
  rw [hmode, regulatorOnMode_hold_run]
  rfl

theorem holdToRun_of_other (hother : ¬(p.control.mode = .hold ∧ p.control.lineStop = false ∧ p.control.operatorHold = false)) :
    holdToRun p = p := if_neg hother

theorem holdToRun_platen : (holdToRun p).sequencer.platen = p.sequencer.platen := by
  unfold holdToRun; split
  · exact setMode_platen _ _
  · rfl

theorem holdToRun_regulator : (holdToRun p).regulator = p.regulator := by
  by_cases hclear : p.control.mode = .hold ∧ p.control.lineStop = false ∧ p.control.operatorHold = false
  · rw [holdToRun_of_clear p hclear.1 hclear.2.1 hclear.2.2]
  · rw [holdToRun_of_other p hclear]

/-! ## LINE STATE (O30) -/

variable {p} {cause : Byte} (hlow : 1 ≤ cause.toNat) (hhigh : cause.toNat ≤ 3)

section
include hlow hhigh

theorem readLineState_stop : readLineState [1, cause] = some false := by
  unfold readLineState; rw [if_pos ⟨rfl, Nat.le_refl 1, Nat.le_succ 1, hlow, hhigh⟩]; rfl

theorem readLineState_run : readLineState [2, cause] = some true := by
  unfold readLineState; rw [if_pos ⟨rfl, Nat.le_succ 1, Nat.le_refl 2, hlow, hhigh⟩]; rfl

end

theorem takeLineState_of_read {payload : List Byte} {runs : Bool} (hread : readLineState payload = some runs) :
    takeLineState payload p = if runs then takeRun p else takeStop p := by
  unfold takeLineState; rw [hread]; cases runs <;> rfl

/-- A line stop as a whole: the flag, the freeze, and RUN to HOLD with the quiet count anew (R49, R158, R159, R179). -/
theorem takeStop_gives (p : Part) :
    (takeStop p).control =
        { p.control with mode := if p.control.mode = .run then .hold else p.control.mode, lineStop := true } ∧
      (takeStop p).monitor =
        { p.monitor with
          frozen :=
            if p.control.lineStop = false ∧ freezeOnStop (cfg p) = true ∧ p.monitor.frozen = none then some .stop
            else p.monitor.frozen } ∧
      (takeStop p).tracker = { p.tracker with quietCount := if p.control.mode = .run then 0 else p.tracker.quietCount } ∧
      (takeStop p).regulator = p.regulator ∧ (takeStop p).sequencer.platen = p.sequencer.platen := by
  unfold takeStop
  refine ⟨?_, ?_, ?_, ?_, (stopToHold_platen _).trans (by simp)⟩
  · unfold stopToHold; split <;> rename_i hmode
    · rw [if_pos (show p.control.mode = .run from hmode)]; rfl
    · rw [if_neg (show ¬p.control.mode = .run from hmode)]; rfl
  · rw [stopToHold_monitor, ← setLineStop_frozen]
    unfold setLineStop; dsimp only; split <;> rfl
  · rw [stopToHold_tracker]; simp
  · unfold stopToHold; split
    next hmode =>
      show regulatorOnMode p.control.mode .hold p.regulator = _
      rw [show p.control.mode = .run from hmode, regulatorOnMode_run_hold]
    · simp

/-- A freeze that a stop brought ends with the line-stop flag (R179). -/
theorem clearLineStop_monitor (p : Part) :
    (clearLineStop p).monitor =
      { p.monitor with
        frozen := if p.control.lineStop = true ∧ p.monitor.frozen = some .stop then none else p.monitor.frozen } := by
  unfold clearLineStop
  dsimp only
  by_cases hthaws : p.control.lineStop = true ∧ p.monitor.frozen = some .stop
  · rw [if_pos (by simpa using hthaws), if_pos hthaws]
  · rw [if_neg (by simpa using hthaws), if_neg hthaws]

theorem holdToRun_control (p : Part) :
    (holdToRun p).control =
      { p.control with
        mode :=
          if p.control.mode = .hold ∧ p.control.lineStop = false ∧ p.control.operatorHold = false then .run
          else p.control.mode } := by
  unfold holdToRun; split <;> rfl

theorem takeRun_outside_dry (hmode : p.control.mode ≠ .dry) :
    takeRun p = if p.pins.stopInput then p else holdToRun (clearLineStop p) := by
  unfold takeRun; rw [if_neg hmode]

theorem takeRun_in_dry (hmode : p.control.mode = .dry) :
    takeRun p = if p.pins.stopInput then abortDry false p else holdToRun (clearLineStop (abortDry false p)) := by
  unfold takeRun; rw [if_pos hmode]; dsimp only; rw [abortDry_pins]

/-- Settles O30: STOP and RUN by their reading, RUN by the mode and the stop input. -/
theorem lineStateStopsAndRuns : Obligations.LineStateStopsAndRuns := by
  refine fun s h payload r hr => ⟨fun hread => ?_, fun cause hlow hhigh => ?_, fun cause hlow hhigh hmode hactive => ?_,
    fun cause hlow hhigh hmode hinactive => ?_, fun cause hlow hhigh hmode => ?_⟩
  · have hodd : takeLineState payload r = count .oddCode r := by unfold takeLineState; rw [hread]
    exact ⟨takes_of_heard rfl hr hodd, takes_of_heard rfl hr hodd⟩
  · obtain ⟨hcontrol, hmonitor, htracker, hregulator, hplaten⟩ := takeStop_gives r
    refine ⟨takeStop r, takes_of_heard rfl hr (takeLineState_of_read (readLineState_stop hlow hhigh)) hplaten ?_ ?_,
      hcontrol, hmonitor, ?_, htracker, ?_, hregulator, ?_, hplaten, ?_, ?_, ?_, ?_⟩
    all_goals simp [takeStop]
  · refine takes_of_heard rfl hr ((takeLineState_of_read (readLineState_run hlow hhigh)).trans ?_)
    exact (takeRun_outside_dry hmode).trans (if_pos hactive)
  · have hruns : takeLineState [2, cause] r = holdToRun (clearLineStop r) :=
      (takeLineState_of_read (readLineState_run hlow hhigh)).trans
        ((takeRun_outside_dry hmode).trans (if_neg (by rw [hinactive]; exact Bool.false_ne_true)))
    have hplaten : (holdToRun (clearLineStop r)).sequencer.platen = r.sequencer.platen := by
      rw [holdToRun_platen, clearLineStop_sequencer]
    refine ⟨_, takes_of_heard rfl hr hruns hplaten, ?_, ?_, ?_, ?_, ?_, ?_, ?_, hplaten, ?_, ?_, ?_, ?_⟩
    · rw [holdToRun_control]
      simp only [clearLineStop_mode, clearLineStop_flag, clearLineStop_operatorHold, true_and]
      rfl
    · rw [holdToRun_monitor, clearLineStop_monitor]
    · simp
    · simp
    · simp
    · rw [holdToRun_regulator, clearLineStop_regulator]
    all_goals simp
  · exact takes_of_hears_finish rfl hr ((takeLineState_of_read (readLineState_run hlow hhigh)).trans (takeRun_in_dry hmode))

end Sys2Proof.Machine.ModeChanges
end

section
/-! Service requests (O31, O34, O35, O36): the tests on a request, and what those that are accepted set before they are answered. -/

namespace Sys2Proof.Machine.Requests

open Outcomes ModeChanges

/-! ## A request that reaches the responder -/

section

variable {c : Instr} {h : Header} {handle : Part → Part} {s : State} {r q : Part}

theorem addressed_of_asks (hr : Asks h s r) : addressed handle r = handle r := if_pos hr.2

/-- A request that keeps platen, open sensor and start phase, by what its handling does to the part that it finds. -/
theorem takes_of_asked (he : exec c s = run (arrival h (addressed handle)) s) (hr : Asks h s r) (hhandle : handle r = q)
    (hplaten : q.sequencer.platen = r.sequencer.platen := by simp)
    (hsensor : q.pins.openSensor = r.pins.openSensor := by simp) (hphase : q.loader.phase = r.loader.phase := by simp) :
    Takes c s (endOf q) :=
  takes_of_heard he hr.1 ((addressed_of_asks hr).trans hhandle) hplaten hsensor hphase

end

section

variable {h : Header} {code : Byte} {size : Nat} {args : List Byte} {accepted : Part → Bool} {act : Part → Part} {r : Part}

theorem request_bad (hsize : args.length ≠ size) :
    request h code size args accepted act r = send (.serviceReply h.station code .bad []) r := if_neg hsize

theorem request_refused (hsize : args.length = size) (hrefused : accepted r = false) :
    request h code size args accepted act r = send (.serviceReply h.station code .refused []) r := by
  unfold request; rw [if_pos hsize, hrefused]; rfl

theorem request_accepted (hsize : args.length = size) (haccepted : accepted r = true) :
    request h code size args accepted act r = act r := by
  unfold request; rw [if_pos hsize, if_pos haccepted]

theorem request_alone (haccepted : accepted r = true) : request h code 0 [] accepted act r = act r :=
  request_accepted rfl haccepted

end

theorem outsideStart_of_mode {r : Part} (hmode : r.control.mode ≠ .start) : outsideStart r = true := by
  simpa [outsideStart] using hmode

/-! ## BAD and REFUSED (O31) -/

theorem takeRequest_of_unknown {code : Byte} (hcode : code = 0 ∨ 20 < code.toNat) (h : Header) (args : List Byte) (r : Part) :
    takeRequest code h args r = send (.serviceReply h.station code .bad []) r := by
  have hnumber : code.toNat = 0 ∨ 20 < code.toNat := hcode.imp (fun h => by rw [h]; rfl) id
  unfold takeRequest
  split
  iterate 20 omega
  rfl

/-- The command of a row of the summary is a request with the row's code and length, refused in START unless it is STATUS or
READ CONFIG (R188, R189). -/
structure IsRequest (x : RequestRow) (h : Header) (args : List Byte) (accepted : Part → Bool) (act : Part → Part) : Prop where
  handled : ∀ s, exec (x.command h args) s =
    run (arrival h (addressed (request h (byteOf x.code) x.size args accepted act))) s
  refused : x.code ≠ 1 → x.code ≠ 11 → ∀ r : Part, r.control.mode = .start → accepted r = false

theorem outsideStart_refused (r : Part) (hmode : r.control.mode = .start) : outsideStart r = false := by
  unfold outsideStart; rw [hmode]; rfl

theorem clearFault_refused (r : Part) (hmode : r.control.mode = .start) : clearFaultAccepted r = false := by
  unfold clearFaultAccepted; rw [hmode]; rfl

theorem resync_refused (r : Part) (hmode : r.control.mode = .start) : resyncAccepted r = false := by
  unfold resyncAccepted; rw [hmode]; rfl

theorem refCheck_refused (r : Part) (hmode : r.control.mode = .start) : refCheckAccepted r = false := by
  unfold refCheckAccepted; rw [hmode]; rfl

theorem dryStart_refused (r : Part) (hmode : r.control.mode = .start) : dryStartAccepted r = false := by
  unfold dryStartAccepted; rw [hmode]; rfl

theorem dryStop_refused (r : Part) (hmode : r.control.mode = .start) : dryStopAccepted r = false := by
  unfold dryStopAccepted; rw [hmode]; rfl

theorem isRequest_of_mem {x : RequestRow} (hx : x ∈ requestRows) (h : Header) (args : List Byte) :
    ∃ accepted act, IsRequest x h args accepted act := by
  unfold requestRows at hx
  simp only [List.mem_cons, List.not_mem_nil, or_false] at hx
  rcases hx with rfl | rfl | rfl | rfl | rfl | rfl | rfl | rfl | rfl | rfl | rfl | rfl | rfl | rfl | rfl | rfl | rfl | rfl | rfl | rfl
  · exact ⟨_, _, fun s => rfl, fun hstatus => absurd rfl hstatus⟩
  iterate 9 exact ⟨_, _, fun s => rfl, fun _ _ => outsideStart_refused⟩
  · exact ⟨_, _, fun s => rfl, fun _ hconfig => absurd rfl hconfig⟩
  · exact ⟨_, _, fun s => rfl, fun _ _ => outsideStart_refused⟩
  · exact ⟨_, _, fun s => rfl, fun _ _ => clearFault_refused⟩
  iterate 2 exact ⟨_, _, fun s => rfl, fun _ _ => outsideStart_refused⟩
  · exact ⟨_, _, fun s => rfl, fun _ _ => resync_refused⟩
  · exact ⟨_, _, fun s => rfl, fun _ _ => refCheck_refused⟩
  · exact ⟨_, _, fun s => rfl, fun _ _ => dryStart_refused⟩
  · exact ⟨_, _, fun s => rfl, fun _ _ => dryStop_refused⟩
  · exact ⟨_, _, fun s => rfl, fun _ _ => outsideStart_refused⟩

/-- Settles O31: the tests in their order, for every row of the summary at once, and the five own conditions. -/
theorem requestsAnsweredBadOrRefused : Obligations.RequestsAnsweredBadOrRefused := by
  refine fun s h args r hr => ⟨fun code hcode => ?_, fun x hx hsize => ?_, fun x hx hsize hstatus hconfig hmode => ?_, ?_⟩
  · exact takes_of_asked rfl hr (takeRequest_of_unknown hcode h args r)
  · obtain ⟨accepted, act, hrequest⟩ := isRequest_of_mem hx h args
    exact takes_of_asked (hrequest.handled s) hr (request_bad hsize)
  · obtain ⟨accepted, act, hrequest⟩ := isRequest_of_mem hx h args
    exact takes_of_asked (hrequest.handled s) hr (request_refused hsize (hrequest.refused hstatus hconfig r hmode))
  · rintro rfl
    refine ⟨fun hfails => ?_, fun hfails => ?_, fun hfails => ?_, fun hfails => ?_, fun hfails => ?_⟩
    · refine takes_of_asked rfl hr (request_refused rfl ?_)
      simp only [clearFaultAccepted, Bool.and_eq_false_iff, beq_eq_false_iff_ne, Bool.not_eq_false', or_assoc]
      exact hfails
    · refine takes_of_asked rfl hr (request_refused rfl ?_)
      simp only [resyncAccepted, Bool.and_eq_false_iff, Bool.or_eq_false_iff, beq_eq_false_iff_ne]
      exact hfails
    · refine takes_of_asked rfl hr (request_refused rfl ?_)
      simp only [refCheckAccepted, Bool.and_eq_false_iff, Bool.or_eq_false_iff, beq_eq_false_iff_ne, Option.isNone_eq_false_iff,
        Option.isSome_iff_ne_none, or_assoc]
      exact hfails
    · refine takes_of_asked rfl hr (request_refused rfl ?_)
      simp only [dryStartAccepted, Bool.and_eq_false_iff, beq_eq_false_iff_ne, or_assoc]
      exact hfails
    · refine takes_of_asked rfl hr (request_refused rfl ?_)
      simpa only [dryStopAccepted, beq_eq_false_iff_ne] using hfails

/-! ## Monitor and alarms (O34) -/

/-- The controls written are those given place by place. -/
theorem updateAt_of_getElem? {i : Nat} {k : Control} {ks cs : List Control} (hlength : ks.length = cs.length)
    (heach : ∀ j : Nat, j < ks.length → ks[j]? = if j = i then some k else cs[j]?) : updateAt cs i (fun _ => k) = ks := by
  refine List.ext_getElem? fun j => ?_
  rw [updateAt_getElem?]
  by_cases hj : j < ks.length
  · rw [heach j hj, List.getElem?_eq_getElem (hlength ▸ hj)]; rfl
  · rw [List.getElem?_eq_none (Nat.not_lt.1 hj), List.getElem?_eq_none (hlength ▸ Nat.not_lt.1 hj)]
    exact ite_self _

theorem namedFlags_clash (hi lo : Byte) : (namedFlags [hi, lo]).getLsbD (alarmBit .stationClash) = hi.getLsbD 1 := by
  show (BitVec.ofNat 16 (hi.toNat * 256 + lo.toNat)).getLsbD 9 = hi.getLsbD 1
  rw [BitVec.getLsbD_ofNat, BitVec.getLsbD]
  simp only [Nat.reduceLT, decide_true, Bool.true_and]
  rw [Nat.mul_comm, show (256 : Nat) = 2 ^ 8 from rfl, Nat.testBit_two_pow_mul_add hi.toNat lo.isLt]
  rfl

theorem answerClearAlarms_eq (h : Header) (hi lo : Byte) (r : Part) :
    answerClearAlarms h [hi, lo] r =
      send (.serviceReply h.station 12 .done (bytes16 (r.control.alarms &&& ~~~BitVec.ofNat 16 (hi.toNat * 256 + lo.toNat)).toNat))
        { r with
          control := { r.control with alarms := r.control.alarms &&& ~~~BitVec.ofNat 16 (hi.toNat * 256 + lo.toNat) },
          port := { r.port with clashCount := if hi.getLsbD 1 then 0 else r.port.clashCount } } := by
  have hclash : clearClash (namedFlags [hi, lo]) r =
      { r with port := { r.port with clashCount := if hi.getLsbD 1 then 0 else r.port.clashCount } } := by
    unfold clearClash; rw [namedFlags_clash]; cases hi.getLsbD 1 <;> rfl
  unfold answerClearAlarms
  rw [hclash]
  rfl

/-- Settles O34: each request is accepted outside START, and its act is the reply on the part that it has set. -/
theorem monitorAndAlarmsAreSet : Obligations.MonitorAndAlarmsAreSet := by
  intro s h r hr hmode
  have haccepted := outsideStart_of_mode hmode
  refine ⟨?_, ?_, ?_, fun i select mask hi lo controls k ks hk hlength heach => ?_, fun hi lo => ?_⟩
  · exact takes_of_asked rfl hr (request_accepted rfl haccepted)
  · exact takes_of_asked rfl hr (request_accepted rfl haccepted)
  · exact takes_of_asked rfl hr (request_accepted rfl haccepted)
  · have hread : readControl [i, select, mask, hi, lo, controls] = (min 5 i.toNat, k) := by rw [hk]; rfl
    refine takes_of_asked rfl hr ((request_accepted rfl haccepted).trans ?_)
    unfold answerSetCounter writeControl
    rw [hread, updateAt_of_getElem? hlength heach]
    rfl
  · exact takes_of_asked rfl hr ((request_accepted rfl haccepted).trans (answerClearAlarms_eq h hi lo r))

/-! ## HOLD and RELEASE (O35) -/

/-- HOLD's effect: the flag, and RUN to HOLD (R158, R161). -/
theorem runToHold_setOperatorHold (r : Part) :
    runToHold (setOperatorHold true r) =
      { r with
        control := { r.control with operatorHold := true, mode := if r.control.mode = .run then .hold else r.control.mode },
        sequencer := if r.control.mode = .run then offDry r.sequencer else r.sequencer } := by
  by_cases hmode : r.control.mode = .run
  · rw [runToHold_of_run (setOperatorHold true r) hmode, if_pos hmode, if_pos hmode]; rfl
  · rw [runToHold_of_other (setOperatorHold true r) hmode, if_neg hmode, if_neg hmode]; rfl

/-- RELEASE's effect: the flag, and HOLD with no flag left to RUN (R158, R161). -/
theorem holdToRun_setOperatorHold (r : Part) :
    holdToRun (setOperatorHold false r) =
      { r with
        control :=
          { r.control with
            operatorHold := false,
            mode := if r.control.mode = .hold ∧ r.control.lineStop = false then .run else r.control.mode },
        sequencer := if r.control.mode = .hold ∧ r.control.lineStop = false then offDry r.sequencer else r.sequencer } := by
  by_cases hclear : r.control.mode = .hold ∧ r.control.lineStop = false
  · rw [holdToRun_of_clear (setOperatorHold false r) hclear.1 hclear.2 rfl, if_pos hclear, if_pos hclear]; rfl
  · rw [holdToRun_of_other (setOperatorHold false r) (fun h => hclear ⟨h.1, h.2.1⟩), if_neg hclear, if_neg hclear]; rfl

/-- Settles O35: the part named is the one that the request's act makes. -/
theorem holdAndReleaseMoveRunAndHold : Obligations.HoldAndReleaseMoveRunAndHold := by
  intro s h r hr hmode hold t code hcode hcontrol hsequencer ht
  have haccepted := outsideStart_of_mode hmode
  have hplaten : t.sequencer.platen = r.sequencer.platen := by rw [hsequencer]; split <;> rfl
  have hpins : t.pins.openSensor = r.pins.openSensor := by rw [ht]
  have hloader : t.loader.phase = r.loader.phase := by rw [ht]
  rcases hcode with ⟨rfl, rfl⟩ | ⟨rfl, rfl⟩
  · refine ⟨fun _ => ?_, fun h => Bool.noConfusion h⟩
    have heffect : runToHold (setOperatorHold true r) = t := by
      rw [ht, runToHold_setOperatorHold, hsequencer, hcontrol]
      by_cases hrun : r.control.mode = .run <;> simp [hrun, offDry]
    refine takes_of_asked rfl hr ?_ (by simpa) (by simpa) (by simpa)
    unfold requestHold
    rw [request_alone haccepted, heffect]
    rfl
  · refine ⟨fun h => Bool.noConfusion h, fun _ => ?_⟩
    have heffect : holdToRun (setOperatorHold false r) = t := by
      rw [ht, holdToRun_setOperatorHold, hsequencer, hcontrol]
      by_cases hclear : r.control.mode = .hold ∧ r.control.lineStop = false
      · simp [hclear.1, hclear.2, offDry]
      · simp [hclear]
    refine takes_of_asked rfl hr ?_ (by simpa) (by simpa) (by simpa)
    unfold requestRelease
    rw [request_alone haccepted, heffect]
    rfl

end Sys2Proof.Machine.Requests
end

section
/-! The arithmetic of the dose, the dwell, the supply and the counters (O55 to O58, O60), and the start mark (O54). -/

namespace Sys2Proof.Machine.Arithmetic

/-! ## The start mark and the polynomial (R2, R4) -/

theorem setBits_eq_zero_iff : ∀ d : Byte, setBits d = 0 ↔ d = 0 := by decide

theorem setBits_eq_one_iff : ∀ d : Byte, setBits d = 1 ↔ ∃ i, i < 8 ∧ d = BitVec.ofNat 8 (2 ^ i) := by decide

theorem xor_eq_iff {n : Nat} (a b d : BitVec n) : a ^^^ b = d ↔ a = b ^^^ d := by
  constructor
  · rintro rfl
    rw [BitVec.xor_comm a b, ← BitVec.xor_assoc, BitVec.xor_self, BitVec.zero_xor]
  · rintro rfl
    rw [BitVec.xor_comm b d, BitVec.xor_assoc, BitVec.xor_self, BitVec.xor_zero]

theorem exact_mark_iff (m : Byte) : setBits (m ^^^ startMark) = 0 ↔ m = startMark := by
  rw [setBits_eq_zero_iff, xor_eq_iff]; exact Iff.of_eq (congrArg (m = ·) (BitVec.xor_zero))

/-- Settles O54: a mark differs from the start mark in no bit, or in exactly the one that is flipped in it. -/
theorem startMarkAndPolynomial : Obligations.StartMarkAndPolynomial := by
  unfold Obligations.StartMarkAndPolynomial
  refine ⟨rfl, by decide, fun m => ?_, fun m => ?_⟩
  · simp only [markAccepted, Bool.false_and, Bool.or_false, beq_iff_eq, exact_mark_iff]
  · simp only [markAccepted, Bool.true_and, Bool.or_eq_true, beq_iff_eq, exact_mark_iff, setBits_eq_one_iff, xor_eq_iff]

/-! ## The aim (R64, R133 to R135) -/

section

variable (k : Configuration) (row : RowRecord) (e : LaneEntry)

/-- The nominal shares of stages 1 to 4, in order. -/
def shares : List Nat := [k.share1, k.share2, k.share3, k.share4]

theorem share_succ (j : Nat) : share k (j + 1) = (shares k).getD j 0 := by
  match j with
  | 0 => rfl
  | 1 => rfl
  | 2 => rfl
  | 3 => rfl
  | _ + 4 => rfl

theorem sum_getD_range (l : List Nat) (n : Nat) : ((List.range n).map (fun j => l.getD j 0)).sum = (l.take n).sum := by
  induction n with
  | zero => rfl
  | succ n ih =>
    rw [List.range_succ, List.map_append, List.sum_append, ih, List.take_add_one, List.sum_append, List.map_singleton,
      List.getD_eq_getElem?_getD]
    cases l[n]? <;> simp

variable {e}

theorem contributionOf_first {a b : List Contribution} {x : Contribution} {j : Nat} (hsplit : e.contributions = a ++ x :: b)
    (hbefore : ∀ y ∈ a, y.stage ≠ j) (hstage : x.stage = j) : contributionOf e j = some x := by
  unfold contributionOf
  exact List.find?_eq_some_iff_append.mpr ⟨by simpa using hstage, a, b, hsplit, by simpa using hbefore⟩

variable {k row}

/-- A function that gives each stage its nominal share where it is voided or has no entry, and its first entry's dose otherwise, is the
model's. -/
theorem standsFor_succ {stands : Nat → Nat} (j : Nat) (hvoided : j + 1 ∈ row.upstreamVoided → stands (j + 1) = (shares k).getD j 0)
    (hmissing : j + 1 ∉ row.upstreamVoided → (∀ x ∈ e.contributions, x.stage ≠ j + 1) → stands (j + 1) = (shares k).getD j 0)
    (hentry : ∀ (a b : List Contribution) (x : Contribution), j + 1 ∉ row.upstreamVoided → e.contributions = a ++ x :: b →
      (∀ y ∈ a, y.stage ≠ j + 1) → x.stage = j + 1 → stands (j + 1) = x.dose) :
    standsFor k row e (j + 1) = stands (j + 1) := by
  unfold standsFor
  by_cases hin : j + 1 ∈ row.upstreamVoided
  · rw [if_pos (List.contains_iff_mem.mpr hin), hvoided hin, share_succ]
  · rw [if_neg (fun h => hin (List.contains_iff_mem.mp h))]
    cases hfound : contributionOf e (j + 1) with
    | none => rw [hmissing hin ((PlanFreeze.contributionOf_eq_none_iff e _).mp hfound)]; exact share_succ k j
    | some x =>
      obtain ⟨hstage, a, b, hsplit, hbefore⟩ := List.find?_eq_some_iff_append.mp hfound
      exact (hentry a b x hin hsplit (by simpa using hbefore) (by simpa using hstage)).symm

theorem plannedDose_of_not_final (hstage : k.stage ≠ k.stages) :
    plannedDose k = min 65535 ((shares k).take k.stage).sum := by
  unfold plannedDose finalStage
  rw [if_neg (fun h => hstage (by simpa using h))]
  simp only [share_succ, sum_getD_range]
  rfl

end

/-- Settles O55: the sums run over the same stages, and the natural subtractions of the aim stop at 0. -/
theorem aimStaysBelowDmax : Obligations.AimStaysBelowDmax := by
  intro k row e
  refine ⟨fun stands hstands => ?_, fun hfinal => ?_, plannedDose_of_not_final, ?_, fun hprior => ?_⟩
  · have hsum : (upstreamStages k).map (standsFor k row e) = (List.range (k.stage - 1)).map (fun j => stands (j + 1)) := by
      unfold upstreamStages
      rw [List.map_map]
      exact List.map_congr_left fun j _ =>
        standsFor_succ j (hstands (j + 1)).1 (hstands (j + 1)).2.1 (hstands (j + 1)).2.2
    unfold prior
    rw [hsum]; rfl
  · unfold plannedDose finalStage
    rw [hfinal, beq_self_eq_true]; rfl
  · unfold aimOf; omega
  · unfold aimOf; omega

/-! ## The dose of a dwell (R137, R138, R144) -/

section

variable {k : Configuration} {pressure : Nat}

theorem contactWeight_low (h : pressure < k.pmin) : contactWeight k pressure = 0 := if_pos h

theorem contactWeight_high (h : k.pmin ≤ pressure) : contactWeight k pressure = min 256 (256 * pressure / k.pref) :=
  if_neg (Nat.not_lt.mpr h)

theorem contactWeight_full (h : k.pmin ≤ pressure) (hpos : 0 < k.pref) (href : k.pref ≤ pressure) :
    contactWeight k pressure = 256 := by
  rw [contactWeight_high h]
  exact Nat.min_eq_left ((Nat.le_div_iff_mul_le hpos).mpr (Nat.mul_le_mul_left 256 href))

theorem contactWeight_le : contactWeight k pressure ≤ 256 := by unfold contactWeight; split <;> omega

end

theorem increment_le {k : Configuration} {temp weight : Nat} (h : weight ≤ 256) : increment k temp weight ≤ temp := by
  unfold increment
  have hterm : (temp - k.tact) * weight ≤ temp * 256 := Nat.mul_le_mul (Nat.sub_le _ _) h
  omega

theorem increment_full {k : Configuration} {temp : Nat} : increment k temp 256 = temp - k.tact :=
  Nat.mul_div_cancel _ (by decide)

/-- Settles O56: each limit from the definition of its quantity. -/
theorem doseLimits : Obligations.DoseLimits := by
  intro k temp pressure acc
  refine ⟨contactWeight_low, contactWeight_high, contactWeight_full, contactWeight_le, fun hcold => ?_, fun _ => rfl,
    increment_le contactWeight_le, fun _ => increment_full, rfl, fun hacc => ?_⟩
  · unfold increment
    rw [Nat.sub_eq_zero_of_le hcold, Nat.zero_mul, Nat.zero_div]
  · unfold ownDose saturate16; omega

/-! ## The dwell limit (R116) -/

theorem dwellLimitOf_some (k : Configuration) (t : Nat) :
    dwellLimitOf k (some t) = max k.nmin (min k.nconf ((t - k.motion - k.settle - k.release) / 2)) := rfl

/-- Settles O57: the subtractions stop at 0 as the clamped window does. -/
theorem dwellLimitFromThePeriod : Obligations.DwellLimitFromThePeriod := by
  intro k t
  refine ⟨rfl, ?_, fun hrange => ?_⟩
  · rw [dwellLimitOf_some]; omega
  · rw [dwellLimitOf_some]; omega

/-! ## Duties and the scale factor (R94, R96, R97, R101, R106 to R108) -/

theorem setpointOf_eq (c : Configuration) (m : Mode) (idle : Bool) :
    setpointOf c m idle = if m = .dry ∨ (m = .run ∨ m = .hold) ∧ idle = true then c.spStby else c.spRun := by
  cases m <;> cases idle <;> rfl

theorem forcedOff_iff (p : Part) (i : Nat) :
    forcedOff p i = true ↔
      (laneChannel p i).isOpen = true ∨ (laneChannel p i).overheat = true ∨ p.control.mode = .start ∨
        p.control.mode = .fault ∨ 0 < p.regulator.listen := by
  simp only [forcedOff, laneUnfit, Bool.or_eq_true, beq_iff_eq, decide_eq_true_eq, or_assoc]

theorem dutyOf_cast (c : Configuration) (sp t : Nat) :
    (dutyOf c sp t : Int) = max 0 (min 64 ((c.bias : Int) + (((sp : Int) - t) * c.gain) / 64)) := by
  unfold dutyOf clampInt
  rw [Int.fdiv_eq_ediv_of_nonneg _ (by decide)]
  exact Int.toNat_of_nonneg (Int.le_max_left 0 _)

theorem unscaledDuty_cast (p : Part) (sp i : Nat) :
    (unscaledDuty p sp i : Int) =
      if (cfg p).lanes ≤ i ∨ (laneChannel p i).isOpen = true ∨ (laneChannel p i).overheat = true ∨ p.control.mode = .start ∨
          p.control.mode = .fault ∨ 0 < p.regulator.listen then 0
      else max 0 (min 64 (((cfg p).bias : Int) + (((sp : Int) - (laneChannel p i).temp) * (cfg p).gain) / 64)) := by
  unfold unscaledDuty
  rw [← dutyOf_cast]
  by_cases hlane : i < (cfg p).lanes
  · rw [if_pos hlane]
    by_cases hoff : forcedOff p i = true
    · rw [if_pos hoff, if_pos (Or.inr ((forcedOff_iff p i).mp hoff))]; rfl
    · rw [if_neg hoff, if_neg]
      rintro (hout | hcond)
      · exact Nat.not_lt.mpr hout hlane
      · exact hoff ((forcedOff_iff p i).mpr hcond)
  · rw [if_neg hlane, if_pos (Or.inl (Nat.not_lt.mp hlane))]; rfl

section

variable {k : Configuration} {w : Nat} {ds : List Draw}

theorem scaleTo_le (available total : Nat) : scaleTo available total ≤ 256 := by
  unfold scaleTo
  split
  · exact Nat.le_refl _
  · exact Nat.div_le_of_le_mul (by omega)

theorem mul_scaleTo_le {available total : Nat} (h : available < total) : total * scaleTo available total ≤ 256 * available := by
  unfold scaleTo
  rw [if_neg (Nat.not_le.mpr h)]
  exact Nat.mul_div_le _ _

theorem scaleFactor_a (hbudget : k.budget ≠ 0) (hcls : k.cls = .a) :
    scaleFactor k w ds = scaleTo k.budget (w + classDemand .a ds) := by
  unfold scaleFactor; rw [if_neg hbudget, hcls]

theorem scaleFactor_b (hbudget : k.budget ≠ 0) (hcls : k.cls = .b) :
    scaleFactor k w ds = scaleTo (k.budget - classDemand .a ds) (w + classDemand .b ds) := by
  unfold scaleFactor; rw [if_neg hbudget, hcls]

theorem scaleFactor_le : scaleFactor k w ds ≤ 256 := by
  unfold scaleFactor
  split
  · exact Nat.le_refl _
  · cases k.cls <;> exact scaleTo_le _ _

end

/-- Settles O58: the duty lane by lane, and the scale factor by class from `scaleTo`. -/
theorem dutiesAndScaleFactor : Obligations.DutiesAndScaleFactor := by
  refine ⟨fun p i x y sp hx hy hsp => ?_, fun k duties => rfl, fun k w ds => ⟨scaleFactor_le, fun h => if_pos h, ?_⟩⟩
  · have hset : setpointOf (cfg p) p.control.mode p.regulator.idle = sp := by rw [setpointOf_eq]; exact hsp.symm
    have hy' : y = { x with duty := unscaledDuty p sp i } := by
      simp only [computeDuties, mapIndexed_getElem?, hx, Option.map_some, hset] at hy
      exact (Option.some.inj hy).symm
    subst hy'
    exact ⟨hset, rfl, unscaledDuty_cast p sp i⟩
  · refine ⟨fun hb hk => ?_, fun hb hk hle => ?_, fun hb hk hlt => ?_, fun hb hk hlt => ?_, fun hb hk hle => ?_, fun hb hk hzero => ?_,
      fun hb hk hle hw => ?_⟩
    · rw [scaleFactor_a hb hk]
      rcases Nat.lt_or_ge k.budget (w + classDemand .a ds) with hlt | hge
      · exact Or.inl (mul_scaleTo_le hlt)
      · exact Or.inr hge
    · rw [scaleFactor_a hb hk]; exact if_pos hle
    · rw [scaleFactor_a hb hk]; exact if_neg (Nat.not_le.mpr hlt)
    · rw [scaleFactor_b hb hk]
      rcases Nat.lt_or_ge (k.budget - classDemand .a ds) (w + classDemand .b ds) with hover | hwithin
      · exact Or.inr (if_neg (Nat.not_le.mpr hover))
      · exact Or.inl (by omega)
    · rw [scaleFactor_b hb hk]; exact if_pos (by omega)
    · rw [scaleFactor_b hb hk]; exact if_pos (by omega)
    · rw [scaleFactor_b hb hk, Nat.sub_eq_zero_of_le hle]
      exact (if_neg (by omega)).trans (by rw [Nat.mul_zero, Nat.zero_div])

/-! ## Counters (R172) -/

/-- Settles O60: the sum is below twice the modulus, so it wraps at most once. -/
theorem additionWrapsAtFortyBits : Obligations.AdditionWrapsAtFortyBits := by
  intro k n hvalue _
  unfold counterModulus at hvalue
  unfold addTo counterModulus
  split
  · rename_i hzero
    subst hzero
    exact ⟨by show k.value = _; omega, by simp; omega⟩
  · split
    · exact ⟨by show k.value + n = _; omega, by simp; omega⟩
    · exact ⟨rfl, by simp; omega⟩

end Sys2Proof.Machine.Arithmetic
end

section
/-! A frame on the wire and back (O51, R3 to R5): stuffing and bit order undone, the content cut at its field boundaries. -/

namespace Sys2Proof.Machine.Wire

/-! ## Stuffing (R3) -/

theorem destuff_stuff (run : Nat) (bs : List Bool) : destuff run (stuff run bs) = (bs, false) := by
  induction bs generalizing run with
  | nil => rfl
  | cons b rest ih =>
    by_cases hfull : run = 10
    · subst hfull
      have hback := ih (if b then 1 else 0)
      simp only [stuff, destuff, if_true, Bool.false_eq_true, if_false, show ¬(0 = 10) by decide, Nat.zero_add,
        hback]
    · simp only [stuff, destuff, if_neg hfull, ih]

/-! ## Bits of a number (R5) -/

@[simp] theorem length_bitsOf (n x : Nat) : (bitsOf n x).length = n := by
  induction n with
  | zero => rfl
  | succ n ih => simp [bitsOf, ih]

theorem foldl_bitsOf (n x acc : Nat) : (bitsOf n x).foldl (fun acc b => 2 * acc + bitOf b) acc = acc * 2 ^ n + x % 2 ^ n := by
  induction n generalizing acc with
  | zero => simp [bitsOf, Nat.mod_one]
  | succ n ih =>
    have hbit : bitOf (x.testBit n) = (x.testBit n).toNat := by cases x.testBit n <;> rfl
    rw [bitsOf, List.foldl_cons, ih, Nat.mod_pow_succ, hbit, Nat.toNat_testBit, Nat.pow_succ]
    ring

theorem ofBits_bitsOf (n x : Nat) : ofBits (bitsOf n x) = x % 2 ^ n := by
  unfold ofBits; rw [foldl_bitsOf, Nat.zero_mul, Nat.zero_add]

theorem bitsOf_congr {n x y : Nat} (h : x % 2 ^ n = y % 2 ^ n) : bitsOf n x = bitsOf n y := by
  induction n with
  | zero => rfl
  | succ n ih =>
    have hbit : x.testBit n = y.testBit n := by
      have hx := Nat.testBit_mod_two_pow x (n + 1) n
      have hy := Nat.testBit_mod_two_pow y (n + 1) n
      simp only [Nat.lt_succ_self, decide_true, Bool.true_and] at hx hy
      rw [← hx, ← hy, h]
    have hlow : x % 2 ^ n = y % 2 ^ n := by
      have hdvd : 2 ^ n ∣ 2 ^ (n + 1) := Nat.pow_dvd_pow 2 (Nat.le_succ n)
      rw [← Nat.mod_mod_of_dvd x hdvd, ← Nat.mod_mod_of_dvd y hdvd, h]
    rw [bitsOf, bitsOf, hbit, ih hlow]

/-- A number that spells two fields, the high one first. -/
theorem bitsOf_fields {n m x y : Nat} (hy : y < 2 ^ m) : bitsOf (n + m) (x * 2 ^ m + y) = bitsOf n x ++ bitsOf m y := by
  induction n with
  | zero =>
    rw [Nat.zero_add]
    exact bitsOf_congr (by rw [Nat.mul_comm, Nat.mul_add_mod])
  | succ n ih =>
    rw [Nat.add_right_comm, bitsOf, bitsOf, ih, List.cons_append, ← Nat.testBit_div_two_pow, Nat.mul_comm,
      Nat.mul_add_div (Nat.two_pow_pos m), Nat.div_eq_of_lt hy, Nat.add_zero]

theorem bitsOf_byteOf (x : Nat) : bitsOf 8 (byteOf x).toNat = bitsOf 8 x := by
  unfold byteOf; rw [BitVec.toNat_ofNat]; exact bitsOf_congr (Nat.mod_mod _ _)

/-! ## Bits of bytes (R5) -/

theorem bitsOfBytes_cons (b : Byte) (bs : List Byte) : bitsOfBytes (b :: bs) = bitsOf 8 b.toNat ++ bitsOfBytes bs := rfl

theorem bitsOfBytes_append (bs cs : List Byte) : bitsOfBytes (bs ++ cs) = bitsOfBytes bs ++ bitsOfBytes cs := List.flatMap_append

@[simp] theorem length_bitsOfBytes (bs : List Byte) : (bitsOfBytes bs).length = 8 * bs.length := by
  induction bs with
  | nil => rfl
  | cons b bs ih => rw [bitsOfBytes_cons, List.length_append, length_bitsOf, ih, List.length_cons]; omega

theorem bytesOfBits_bitsOfBytes (bs : List Byte) (rest : List Bool) : bytesOfBits bs.length (bitsOfBytes bs ++ rest) = bs := by
  induction bs with
  | nil => rfl
  | cons b bs ih =>
    have hbyte : byteOf (ofBits (bitsOf 8 b.toNat)) = b := by
      rw [ofBits_bitsOf]; unfold byteOf; exact BitVec.eq_of_toNat_eq (by rw [BitVec.toNat_ofNat]; omega)
    rw [List.length_cons, bytesOfBits, bitsOfBytes_cons, List.append_assoc, List.take_left' (length_bitsOf 8 _),
      List.drop_left' (length_bitsOf 8 _), hbyte, ih]

/-! ## The content cut at its fields (R5) -/

theorem roleOf_roleCode (r : Role) : roleOf (roleCode r) = r := by cases r <;> rfl

theorem roleCode_lt (r : Role) : roleCode r < 2 ^ 3 := by cases r <;> decide

theorem bitsOf_tag (t : Tag) : bitsOfBytes (bytes16 t.toNat) = bitsOf 16 t.toNat := by
  have hlow : t.toNat % 256 < 2 ^ 8 := Nat.mod_lt _ (by decide)
  have hsplit : t.toNat / 256 * 2 ^ 8 + t.toNat % 256 = t.toNat := Nat.div_add_mod' _ _
  have hfields := bitsOf_fields (n := 8) (x := t.toNat / 256) hlow
  rw [hsplit, bitsOf_congr (n := 8) (Nat.mod_mod t.toNat 256)] at hfields
  rw [hfields, bytes16, bitsOfBytes_cons, bitsOfBytes_cons]
  exact congrArg₂ (· ++ ·) (bitsOf_byteOf _) ((List.append_nil _).trans (bitsOf_byteOf _))

/-- Header and payload, field by field. -/
theorem contentBits_fields (f : RxFrame) :
    contentBits f =
      bitsOf 3 f.header.priority.toNat ++ (bitsOf 5 f.kind.toNat ++ (bitsOf 5 f.header.station.toNat ++
        (bitsOf 3 (roleCode f.header.role) ++ (bitsOf 8 f.header.position.toNat ++ (bitsOf 16 f.header.hereTag.toNat ++
          (bitsOf 8 f.payload.length ++ bitsOfBytes f.payload)))))) := by
  have hfirst := bitsOf_fields (n := 3) (x := f.header.priority.toNat) f.kind.isLt
  have hsecond := bitsOf_fields (n := 5) (x := f.header.station.toNat) (roleCode_lt f.header.role)
  simp only [Nat.reduceAdd, Nat.reducePow] at hfirst hsecond
  simp only [contentBits, headerBytes, bitsOfBytes_append, bitsOfBytes_cons, bitsOf_byteOf, hfirst, hsecond, bitsOf_tag,
    List.append_assoc]
  rfl

/-- A field between the bits before it and the bits after it. -/
theorem slice {α : Type} {l a b c : List α} {i n : Nat} (hl : l = a ++ (b ++ c)) (ha : a.length = i) (hb : b.length = n) :
    (l.drop i).take n = b := by
  rw [hl, List.drop_left' ha, List.take_left' hb]

theorem drop_fields {α : Type} {a b : List α} {i j : Nat} (ha : a.length = i) : (a ++ b).drop (i + j) = b.drop j := by
  rw [← List.drop_drop, List.drop_left' ha]

theorem ofBits_toNat {n : Nat} (x : BitVec n) : BitVec.ofNat n (ofBits (bitsOf n x.toNat)) = x := by
  rw [ofBits_bitsOf]; exact BitVec.eq_of_toNat_eq (by rw [BitVec.toNat_ofNat, Nat.mod_mod, Nat.mod_eq_of_lt x.isLt])

theorem ofBits_of_lt {n x : Nat} (h : x < 2 ^ n) : ofBits (bitsOf n x) = x := by rw [ofBits_bitsOf, Nat.mod_eq_of_lt h]

section

variable (f : RxFrame) (rest : List Bool)

theorem length_contentBits : (contentBits f).length = 48 + 8 * f.payload.length := by
  unfold contentBits headerBytes bytes16
  rw [length_bitsOfBytes]
  simp only [List.length_append, List.length_cons, List.length_nil]
  omega

theorem priority_slice : (contentBits f ++ rest).take 3 = bitsOf 3 f.header.priority.toNat := by
  rw [contentBits_fields, List.append_assoc, List.take_left' (length_bitsOf _ _)]

/-- What follows the three priority bits. -/
theorem drop_priority (j : Nat) :
    (contentBits f ++ rest).drop (3 + j) =
      (bitsOf 5 f.kind.toNat ++ (bitsOf 5 f.header.station.toNat ++ (bitsOf 3 (roleCode f.header.role) ++
        (bitsOf 8 f.header.position.toNat ++ (bitsOf 16 f.header.hereTag.toNat ++
          (bitsOf 8 f.payload.length ++ (bitsOfBytes f.payload ++ rest))))))).drop j := by
  simp only [contentBits_fields, List.append_assoc]
  exact drop_fields (length_bitsOf _ _)

theorem kind_slice : ((contentBits f ++ rest).drop 3).take 5 = bitsOf 5 f.kind.toNat := by
  rw [drop_priority f rest 0]; exact List.take_left' (length_bitsOf _ _)

theorem station_slice : ((contentBits f ++ rest).drop 8).take 5 = bitsOf 5 f.header.station.toNat := by
  rw [drop_priority f rest 5]
  exact slice rfl (length_bitsOf _ _) (length_bitsOf _ _)

/-- What follows the sixteen bits of the first two header bytes. -/
theorem drop_role (j : Nat) :
    (contentBits f ++ rest).drop (16 + j) =
      (bitsOf 8 f.header.position.toNat ++ (bitsOf 16 f.header.hereTag.toNat ++
        (bitsOf 8 f.payload.length ++ (bitsOfBytes f.payload ++ rest)))).drop j := by
  rw [show 16 + j = 3 + (5 + (5 + (3 + j))) by omega, drop_priority, drop_fields (length_bitsOf _ _),
    drop_fields (length_bitsOf _ _), drop_fields (length_bitsOf _ _)]

theorem role_slice : ((contentBits f ++ rest).drop 13).take 3 = bitsOf 3 (roleCode f.header.role) := by
  rw [drop_priority f rest (5 + 5), drop_fields (length_bitsOf _ _), List.drop_left' (length_bitsOf _ _)]
  exact List.take_left' (length_bitsOf _ _)

theorem position_slice : ((contentBits f ++ rest).drop 16).take 8 = bitsOf 8 f.header.position.toNat := by
  rw [drop_role f rest 0]; exact List.take_left' (length_bitsOf _ _)

theorem hereTag_slice : ((contentBits f ++ rest).drop 24).take 16 = bitsOf 16 f.header.hereTag.toNat := by
  rw [drop_role f rest 8]
  exact slice rfl (length_bitsOf _ _) (length_bitsOf _ _)

theorem length_slice : ((contentBits f ++ rest).drop 40).take 8 = bitsOf 8 f.payload.length := by
  rw [drop_role f rest (8 + 16), drop_fields (length_bitsOf _ _), List.drop_left' (length_bitsOf _ _)]
  exact List.take_left' (length_bitsOf _ _)

theorem payload_slice : (contentBits f ++ rest).drop 48 = bitsOfBytes f.payload ++ rest := by
  rw [drop_role f rest (8 + (16 + 8)), drop_fields (length_bitsOf _ _), drop_fields (length_bitsOf _ _),
    List.drop_left' (length_bitsOf _ _)]

theorem readFrame_contentBits : readFrame f.payload.length (contentBits f ++ rest) = f := by
  unfold readFrame
  rw [priority_slice, kind_slice, station_slice, role_slice, position_slice, hereTag_slice, payload_slice,
    ofBits_toNat, ofBits_toNat, ofBits_toNat, ofBits_toNat, ofBits_of_lt (roleCode_lt _), roleOf_roleCode,
    bytesOfBits_bitsOfBytes]
  exact congrArg (fun x => { f with header := { f.header with position := x } }) (ofBits_toNat f.header.position)

end

/-- Settles O51: destuffing gives the content and the check back, and the content spells the frame. -/
theorem wireFrameRoundTrip : Obligations.WireFrameRoundTrip := by
  intro f hshort
  have hcount : ofBits (bitsOf 8 f.payload.length) = f.payload.length := ofBits_of_lt (by omega)
  have hlength (rest : List Bool) : (contentBits f ++ rest).length = 48 + 8 * f.payload.length + rest.length := by
    rw [List.length_append, length_contentBits]
  have hcheck : ofBits (bitsOf 16 (checkOf (contentBits f)).toNat) = (checkOf (contentBits f)).toNat :=
    ofBits_of_lt (checkOf (contentBits f)).isLt
  unfold receiveBits tailBits
  simp only [destuff_stuff, length_slice, hcount]
  rw [if_neg (by omega), if_pos (by rw [hlength, length_bitsOf]; omega),
    List.take_left' (length_contentBits f), List.drop_left' (length_contentBits f),
    List.take_of_length_le (Nat.le_of_eq (length_bitsOf _ _)), hcheck, if_pos rfl, readFrame_contentBits]

end Sys2Proof.Machine.Wire
end

section
/-! Bytes and fields written and read back (R5), and the payloads of this part as another part reads them (O53, R9 to R12, R173). -/

namespace Sys2Proof.Machine.Bytes

/-! ## One byte, one field -/

theorem byteAt_lt (bs : List Byte) (i : Nat) : byteAt bs i < 256 := (bs.getD i 0).isLt

theorem fieldAt_lt (bs : List Byte) (i : Nat) : fieldAt bs i < 65536 := by
  have hhigh := byteAt_lt bs i
  have hlow := byteAt_lt bs (i + 1)
  unfold fieldAt
  omega

theorem toNat_byteOf {n : Nat} (h : n < 256) : (byteOf n).toNat = n := by
  unfold byteOf; rw [BitVec.toNat_ofNat]; exact Nat.mod_eq_of_lt h

theorem field_of_bytes (n : Nat) : (BitVec.ofNat 8 (n / 256)).toNat * 256 + (BitVec.ofNat 8 n).toNat = n % 65536 := by
  rw [BitVec.toNat_ofNat, BitVec.toNat_ofNat]; omega

theorem field_of_lt {n : Nat} (h : n < 65536) : (BitVec.ofNat 8 (n / 256)).toNat * 256 + (BitVec.ofNat 8 n).toNat = n := by
  rw [field_of_bytes, Nat.mod_eq_of_lt h]

theorem word_of_bytes (t : BitVec 16) :
    BitVec.ofNat 16 ((BitVec.ofNat 8 (t.toNat / 256)).toNat * 256 + (BitVec.ofNat 8 t.toNat).toNat) = t := by
  rw [field_of_lt t.isLt, BitVec.ofNat_toNat, BitVec.setWidth_eq]

theorem toInt_ofInt {n : Int} (hlow : -128 ≤ n) (hhigh : n ≤ 127) : (BitVec.ofInt 8 n).toInt = n := by
  rw [BitVec.toInt_ofInt, Int.bmod_def]; omega

theorem bitOf_le (b : Bool) : bitOf b ≤ 1 := by cases b <;> decide

/-! ## Lane groups -/

theorem length_flatMap_const {α β : Type} {f : α → List β} {m : Nat} (hf : ∀ x, (f x).length = m) (l : List α) :
    (l.flatMap f).length = m * l.length := by
  induction l with
  | nil => rfl
  | cons x l ih => rw [List.flatMap_cons, List.length_append, hf, ih, List.length_cons, Nat.mul_succ, Nat.add_comm]

/-- Place j of group i, where every group has m places. -/
theorem getD_flatMap {α β : Type} {f : α → List β} {m : Nat} (hf : ∀ x, (f x).length = m) {l : List α} {i j : Nat} {x : α}
    (hx : l[i]? = some x) (hj : j < m) (d : β) : (l.flatMap f).getD (m * i + j) d = (f x).getD j d := by
  induction l generalizing i with
  | nil => cases hx
  | cons y l ih =>
    cases i with
    | zero =>
      cases hx
      rw [List.flatMap_cons, Nat.mul_zero, Nat.zero_add, List.getD_append _ _ _ _ (by rw [hf]; exact hj)]
    | succ i =>
      rw [List.flatMap_cons, List.getD_append_right _ _ _ _ (by rw [hf, Nat.mul_succ]; omega), hf,
        show m * (i + 1) + j - m = m * i + j by rw [Nat.mul_succ]; omega]
      exact ih hx

/-! ## A SEAL REPORT (R9) -/

theorem verdictOf_verdictCode (v : Verdict) : verdictOf (verdictCode v) = some v := by cases v <;> rfl

theorem reasonOf_reasonCode (r : Reason) : reasonOf (reasonCode r) = some r := by cases r <;> rfl

theorem verdictCode_le (v : Verdict) : verdictCode v ≤ 5 := by cases v <;> decide

theorem reasonCode_le (r : Reason) : reasonCode r ≤ 10 := by cases r <;> decide

theorem readResult_code (v : Verdict) (r : Reason) : readResult (byteOf (verdictCode v * 16 + reasonCode r)).toNat = some (v, r) := by
  have hv := verdictCode_le v
  have hr := reasonCode_le r
  rw [toNat_byteOf (by omega)]
  unfold readResult
  rw [show (verdictCode v * 16 + reasonCode r) / 16 = verdictCode v by omega,
    show (verdictCode v * 16 + reasonCode r) % 16 = reasonCode r by omega, verdictOf_verdictCode, reasonOf_reasonCode]

theorem length_reportLaneBytes (l : ReportLane) : (reportLaneBytes l).length = 3 := rfl

theorem length_reportBytes (x : SealReport) : (reportBytes x).length = 6 + 3 * x.lanes.length := by
  unfold reportBytes
  rw [List.length_append, length_flatMap_const length_reportLaneBytes]; rfl

theorem getD_reportBytes {x : SealReport} {i j : Nat} {l : ReportLane} (hl : x.lanes[i]? = some l) (hj : j < 3) :
    (reportBytes x).getD (6 + 3 * i + j) 0 = (reportLaneBytes l).getD j 0 := by
  unfold reportBytes
  rw [List.getD_append_right _ _ _ _ (by simp [bytes16]; omega), ← getD_flatMap length_reportLaneBytes hl hj]
  congr 1
  show 6 + 3 * i + j - 6 = _
  omega

/-- A lane of a report as another part reads it. -/
def readLane (l : ReportLane) : ReceivedLane := { dose := l.dose, result := some (l.verdict, l.reason) }

theorem readReportLane_reportBytes {x : SealReport} {i : Nat} {l : ReportLane} (hl : x.lanes[i]? = some l) (hdose : l.dose ≤ 65535) :
    readReportLane (reportBytes x) i = readLane l := by
  have hlow : (reportBytes x).getD (6 + 3 * i) 0 = BitVec.ofNat 8 (l.dose / 256) := getD_reportBytes (j := 0) hl (by decide)
  have hhigh : (reportBytes x).getD (6 + 3 * i + 1) 0 = BitVec.ofNat 8 l.dose := getD_reportBytes (j := 1) hl (by decide)
  have hresult : (reportBytes x).getD (8 + 3 * i) 0 = byteOf (verdictCode l.verdict * 16 + reasonCode l.reason) := by
    rw [show 8 + 3 * i = 6 + 3 * i + 2 by omega]; exact getD_reportBytes (j := 2) hl (by decide)
  unfold readReportLane fieldAt byteAt readLane
  rw [hlow, hhigh, hresult, readResult_code, field_of_lt (by omega)]

theorem stage_byte (x : SealReport) (hpos : 1 ≤ x.stage) (hle : x.stage ≤ 4) : byteAt (reportBytes x) 2 / 64 + 1 = x.stage := by
  have hfinal := bitOf_le x.final
  have hnone := bitOf_le x.noContact
  have hforced := bitOf_le x.forced
  have hdrift := bitOf_le x.drift
  have hbyte : byteAt (reportBytes x) 2 =
      (byteOf ((x.stage - 1) * 64 + bitOf x.final * 32 + bitOf x.noContact * 16 + bitOf x.forced * 8 + bitOf x.drift * 4)).toNat :=
    rfl
  rw [hbyte, toNat_byteOf (by omega)]
  omega

theorem readSealReport_reportBytes (x : SealReport) (hpos : 1 ≤ x.stage) (hle : x.stage ≤ 4) (hlanes : 1 ≤ x.lanes.length)
    (hmax : x.lanes.length ≤ 8) (hdose : ∀ l ∈ x.lanes, l.dose ≤ 65535) :
    readSealReport (reportBytes x) = some { tag := x.tag, stage := x.stage, lanes := x.lanes.map readLane } := by
  have hmap : (List.range x.lanes.length).map (readReportLane (reportBytes x)) = x.lanes.map readLane := by
    refine List.ext_getElem (by simp) fun i hi hi' => ?_
    have hin : i < x.lanes.length := by simpa using hi'
    simp only [List.getElem_map, List.getElem_range]
    exact readReportLane_reportBytes (List.getElem?_eq_getElem hin) (hdose _ (List.getElem_mem hin))
  have htag : tagAt (reportBytes x) 0 = x.tag := word_of_bytes x.tag
  unfold readSealReport
  rw [length_reportBytes, if_pos (by omega), show (6 + 3 * x.lanes.length - 6) / 3 = x.lanes.length by omega, hmap, htag,
    stage_byte x hpos hle]

/-! ## The other payloads (R10, R12, R173) -/

theorem readVoidNotice_payload (first last : Tag) {stage : Nat} (cause : VoidCause) (hpos : 1 ≤ stage) (hle : stage ≤ 4) :
    readVoidNotice (payloadBytes (.voidNotice first last stage cause)) = some { first := first, last := last, stage := stage } := by
  have hstage : byteAt (payloadBytes (.voidNotice first last stage cause)) 4 = stage := toNat_byteOf (by omega)
  have hcause : byteAt (payloadBytes (.voidNotice first last stage cause)) 5 = voidCauseCode cause := by cases cause <;> rfl
  have hlength : (payloadBytes (.voidNotice first last stage cause)).length = 6 := rfl
  have hfirst : tagAt (payloadBytes (.voidNotice first last stage cause)) 0 = first := word_of_bytes first
  have hlast : tagAt (payloadBytes (.voidNotice first last stage cause)) 2 = last := word_of_bytes last
  unfold readVoidNotice
  rw [hstage, hcause, hlength, hfirst, hlast]
  exact if_pos ⟨rfl, hpos, hle, by cases cause <;> decide⟩

theorem readDrawNotice_payload {feed demand : Nat} (k : DrawClass) (hfeed : feed ≤ 3) (hdemand : demand ≤ 65535) :
    readDrawNotice (payloadBytes (.drawNotice feed k demand)) = some { feed := feed, cls := k, demand := demand } := by
  have hclass : classCode k = 0 ∧ k = .a ∨ classCode k = 1 ∧ k = .b := by cases k <;> decide
  have hbyte : byteAt (payloadBytes (.drawNotice feed k demand)) 0 = feed * 64 + classCode k * 32 := toNat_byteOf (by omega)
  have hfield : fieldAt (payloadBytes (.drawNotice feed k demand)) 1 = demand := field_of_lt (by omega)
  unfold readDrawNotice
  rw [hbyte, hfield, show (feed * 64 + classCode k * 32) / 64 = feed by omega]
  refine (if_pos rfl).trans ?_
  rcases hclass with ⟨hcode, rfl⟩ | ⟨hcode, rfl⟩
  · rw [hcode, if_pos (by omega)]
  · rw [hcode, if_neg (by omega)]

theorem flags_byte : ∀ invert edge enable : Bool,
    (byteOf (bitOf invert * 4 + bitOf edge * 2 + bitOf enable)).getLsbD 2 = invert ∧
      (byteOf (bitOf invert * 4 + bitOf edge * 2 + bitOf enable)).getLsbD 1 = edge ∧
      (byteOf (bitOf invert * 4 + bitOf edge * 2 + bitOf enable)).getLsbD 0 = enable := by decide

theorem readControl_controlBytes {i : Nat} {k : Control} (hi : i ≤ 5) (hselect : k.select ≤ 28) (hthreshold : k.threshold ≤ 65535) :
    readControl (controlBytes i k) = (i, { k with memory := false }) := by
  have hindex : byteAt (controlBytes i k) 0 = i := toNat_byteOf (by omega)
  have hcode : byteAt (controlBytes i k) 1 = k.select := toNat_byteOf (by omega)
  have hfield : fieldAt (controlBytes i k) 3 = k.threshold := field_of_lt (by omega)
  obtain ⟨hinvert, hedge, henable⟩ := flags_byte k.invert k.edge k.enable
  unfold readControl
  rw [hindex, hcode, hfield, Nat.min_eq_right hi, Nat.min_eq_right hselect]
  show (i, ({ k with invert := _, edge := _, enable := _, memory := false } : Control)) = _
  rw [show (controlBytes i k).getD 5 0 = byteOf (bitOf k.invert * 4 + bitOf k.edge * 2 + bitOf k.enable) from rfl, hinvert, hedge,
    henable]

/-- Settles O53: each payload by its own lemma. -/
theorem payloadsReadBack : Obligations.PayloadsReadBack :=
  ⟨readSealReport_reportBytes, fun first last _ cause hpos hle => readVoidNotice_payload first last cause hpos hle,
    fun _ k _ hfeed hdemand => readDrawNotice_payload k hfeed hdemand, fun cause => by cases cause <;> rfl,
    fun _ _ hi hselect hthreshold => readControl_controlBytes hi hselect hthreshold⟩

end Sys2Proof.Machine.Bytes
end

section
/-! The configuration block laid out and read back (O52, R16, R198): a configuration whose fields fit their bytes is read back from
its block, and a clamped one fits. -/

namespace Sys2Proof.Machine.Block

open Bytes

/-! ## A configuration that fits its block -/

/-- The one-byte fields. -/
def byteFields (c : Configuration) : List Nat :=
  [c.stage, c.stages, c.position, c.lanes, c.evidence, c.settle, c.lead, c.averaging, c.refTol, c.bias, c.gain, c.feed]

/-- The two-byte fields but for the lane weights. -/
def wordFields (c : Configuration) : List Nat :=
  [c.minIndex, c.motion, c.release, c.closeTimeout, c.openTimeout, c.idleTimeout, c.dryPeriod, c.nconf, c.nmin, c.tact, c.pmin,
    c.pref, c.share1, c.share2, c.share3, c.share4, c.dtarget, c.dmin, c.dmax, c.pspan, c.tlimit, c.spRun, c.spStby, c.budget]

/-- Every field fits the bytes it is laid out in. -/
structure Fits (c : Configuration) : Prop where
  bytes : ∀ n ∈ byteFields c, n < 256
  words : ∀ n ∈ wordFields c, n < 65536
  offsets : c.offsets.length = 8
  weights : c.wlane.length = 8
  signed : ∀ n ∈ c.poffset :: c.offsets, -128 ≤ n ∧ n ≤ 127
  weight : ∀ n ∈ c.wlane, n < 65536

/-! ## The block in its five parts -/

/-- Bytes 0 to 52. -/
def front (c : Configuration) : List Byte :=
  List.flatten
    [bytes16 magicWord, bytes16 blockLength,
      [byteOf c.stage, byteOf c.stages, byteOf c.position, byteOf c.lanes, c.options, byteOf c.evidence],
      bytes16 c.minIndex, bytes16 c.motion, [byteOf c.settle], bytes16 c.release, bytes16 c.closeTimeout,
      bytes16 c.openTimeout, bytes16 c.idleTimeout, bytes16 c.dryPeriod, bytes16 c.nconf, bytes16 c.nmin, [byteOf c.lead],
      bytes16 c.tact, bytes16 c.pmin, bytes16 c.pref, bytes16 c.share1, bytes16 c.share2, bytes16 c.share3, bytes16 c.share4,
      bytes16 c.dtarget, bytes16 c.dmin, bytes16 c.dmax, bytes16 c.pspan, [BitVec.ofInt 8 c.poffset]]

/-- Bytes 61 to 70, behind the offsets. -/
def middle (c : Configuration) : List Byte :=
  [byteOf c.averaging] ++ bytes16 c.tlimit ++ [byteOf c.refTol] ++ bytes16 c.spRun ++ bytes16 c.spStby ++
    [byteOf c.bias, byteOf c.gain]

/-- Bytes 87 to 92, behind the lane weights. -/
def back (c : Configuration) : List Byte :=
  [byteOf c.feed, byteOf (classCode c.cls)] ++ bytes16 c.budget ++ bytes16 c.alarmMask.toNat

section

variable (c : Configuration)

theorem length_bytes16 (n : Nat) : (bytes16 n).length = 2 := rfl

theorem length_front : (front c).length = 53 := rfl

theorem length_middle : (middle c).length = 10 := rfl

theorem length_back : (back c).length = 6 := rfl

theorem blockBody_parts :
    blockBody c = front c ++ (c.offsets.map (BitVec.ofInt 8) ++ (middle c ++ (c.wlane.flatMap bytes16 ++ back c))) := by
  unfold blockBody front middle back
  simp only [List.flatten_cons, List.flatten_nil, List.append_assoc, List.append_nil]

theorem blockBytes_parts :
    blockBytes c =
      front c ++ (c.offsets.map (BitVec.ofInt 8) ++ (middle c ++ (c.wlane.flatMap bytes16 ++ (back c ++
        bytes16 (blockSum (blockBody c)))))) := by
  unfold blockBytes
  simp only [blockBody_parts, List.append_assoc]

theorem getD_front {i : Nat} (hi : i < 53) : (blockBytes c).getD i 0 = (front c).getD i 0 := by
  rw [blockBytes_parts]; exact List.getD_append _ _ _ _ (by rw [length_front]; exact hi)

variable {c} (h : Fits c)
include h

theorem length_blockBody : (blockBody c).length = 93 := by
  rw [blockBody_parts]
  simp only [List.length_append, List.length_map, h.offsets, length_flatMap_const length_bytes16 c.wlane, h.weights, length_front, length_middle, length_back]

theorem getD_offsets {i : Nat} (hi : i < 8) : (blockBytes c).getD (53 + i) 0 = (c.offsets.map (BitVec.ofInt 8)).getD i 0 := by
  rw [blockBytes_parts, List.getD_append_right _ _ _ _ (by rw [length_front]; omega), length_front, Nat.add_sub_cancel_left]
  exact List.getD_append _ _ _ _ (by rw [List.length_map, h.offsets]; exact hi)

/-- What stands behind the offsets. -/
theorem getD_behind_offsets (i : Nat) :
    (blockBytes c).getD (61 + i) 0 =
      (middle c ++ (c.wlane.flatMap bytes16 ++ (back c ++ bytes16 (blockSum (blockBody c))))).getD i 0 := by
  have hfront : (front c ++ c.offsets.map (BitVec.ofInt 8)).length = 61 := by
    rw [List.length_append, List.length_map, h.offsets, length_front]
  rw [blockBytes_parts, ← List.append_assoc, List.getD_append_right _ _ _ _ (by omega), hfront, Nat.add_sub_cancel_left]

theorem getD_middle {i : Nat} (hi : i < 10) : (blockBytes c).getD (61 + i) 0 = (middle c).getD i 0 := by
  rw [getD_behind_offsets h]; exact List.getD_append _ _ _ _ (by rw [length_middle]; exact hi)

theorem length_weights : (c.wlane.flatMap bytes16).length = 16 := by
  rw [length_flatMap_const length_bytes16, h.weights]

theorem getD_weights {i : Nat} (hi : i < 16) : (blockBytes c).getD (71 + i) 0 = (c.wlane.flatMap bytes16).getD i 0 := by
  rw [show 71 + i = 61 + (10 + i) by omega, getD_behind_offsets h,
    List.getD_append_right _ _ _ _ (by rw [length_middle]; omega), length_middle, Nat.add_sub_cancel_left]
  exact List.getD_append _ _ _ _ (by rw [length_weights h]; exact hi)

theorem getD_back (i : Nat) :
    (blockBytes c).getD (87 + i) 0 = (back c ++ bytes16 (blockSum (blockBody c))).getD i 0 := by
  rw [show 87 + i = 61 + (10 + (16 + i)) by omega, getD_behind_offsets h,
    List.getD_append_right _ _ _ _ (by rw [length_middle]; omega), length_middle, Nat.add_sub_cancel_left, List.getD_append_right _ _ _ _ (by rw [length_weights h]; omega), length_weights h,
    Nat.add_sub_cancel_left]

/-! ## Field by field -/

theorem byte_front {i n : Nat} (hi : i < 53) (hmem : n ∈ byteFields c) (hbyte : (front c).getD i 0 = byteOf n) :
    byteAt (blockBytes c) i = n := by
  unfold byteAt; rw [getD_front c hi, hbyte, toNat_byteOf (h.bytes n hmem)]

theorem word_front {i n : Nat} (hi : i + 1 < 53) (hmem : n ∈ wordFields c) (hhigh : (front c).getD i 0 = BitVec.ofNat 8 (n / 256))
    (hlow : (front c).getD (i + 1) 0 = BitVec.ofNat 8 n) : fieldAt (blockBytes c) i = n := by
  unfold fieldAt byteAt
  rw [getD_front c hi, getD_front c (Nat.lt_of_succ_lt hi), hhigh, hlow, field_of_lt (h.words n hmem)]

theorem byte_middle {i n : Nat} (hi : i < 10) (hmem : n ∈ byteFields c) (hbyte : (middle c).getD i 0 = byteOf n) :
    byteAt (blockBytes c) (61 + i) = n := by
  unfold byteAt; rw [getD_middle h hi, hbyte, toNat_byteOf (h.bytes n hmem)]

theorem word_middle {i n : Nat} (hi : i + 1 < 10) (hmem : n ∈ wordFields c)
    (hhigh : (middle c).getD i 0 = BitVec.ofNat 8 (n / 256)) (hlow : (middle c).getD (i + 1) 0 = BitVec.ofNat 8 n) :
    fieldAt (blockBytes c) (61 + i) = n := by
  unfold fieldAt byteAt
  rw [Nat.add_assoc, getD_middle h hi, getD_middle h (Nat.lt_of_succ_lt hi), hhigh, hlow, field_of_lt (h.words n hmem)]

theorem poffset_read : signedByteAt (blockBytes c) 52 = c.poffset := by
  obtain ⟨hlow, hhigh⟩ := h.signed c.poffset List.mem_cons_self
  unfold signedByteAt
  rw [getD_front c (by decide)]
  exact toInt_ofInt hlow hhigh

theorem offsets_read : (List.range 8).map (fun i => signedByteAt (blockBytes c) (53 + i)) = c.offsets := by
  refine List.ext_getElem (by simp [h.offsets]) fun i hi hi' => ?_
  obtain ⟨hlow, hhigh⟩ := h.signed c.offsets[i] (List.mem_cons_of_mem _ (List.getElem_mem hi'))
  simp only [List.getElem_map, List.getElem_range, signedByteAt]
  rw [getD_offsets h (h.offsets ▸ hi'), List.getD_eq_getElem _ _ (by simpa using hi'), List.getElem_map, toInt_ofInt hlow hhigh]

theorem weights_read : (List.range 8).map (fun i => fieldAt (blockBytes c) (71 + 2 * i)) = c.wlane := by
  refine List.ext_getElem (by simp [h.weights]) fun i hi hi' => ?_
  have hin : i < 8 := h.weights ▸ hi'
  have hbytes {j : Nat} (hj : j < 2) : (blockBytes c).getD (71 + (2 * i + j)) 0 = (bytes16 c.wlane[i]).getD j 0 := by
    rw [getD_weights h (by omega), getD_flatMap length_bytes16 (List.getElem?_eq_getElem hi') hj]
  simp only [List.getElem_map, List.getElem_range, fieldAt, byteAt]
  rw [show 71 + 2 * i + 1 = 71 + (2 * i + 1) by omega, hbytes (j := 1) (by decide), ← Nat.add_zero (2 * i),
    hbytes (j := 0) (by decide)]
  exact field_of_lt (h.weight _ (List.getElem_mem hi'))

theorem feed_read : byteAt (blockBytes c) 87 = c.feed := by
  unfold byteAt; rw [getD_back h 0]; exact toNat_byteOf (h.bytes _ (by simp [byteFields]))

theorem cls_read : classOf (byteAt (blockBytes c) 88) = c.cls := by
  unfold byteAt
  rw [getD_back h 1]
  show classOf (byteOf (classCode c.cls)).toNat = c.cls
  cases c.cls <;> rfl

theorem budget_read : fieldAt (blockBytes c) 89 = c.budget := by
  unfold fieldAt byteAt
  rw [getD_back h 2, getD_back h 3]
  exact field_of_lt (h.words _ (by simp [wordFields]))

theorem alarmMask_read : BitVec.ofNat 16 (fieldAt (blockBytes c) 91) = c.alarmMask := by
  unfold fieldAt byteAt
  rw [getD_back h 4, getD_back h 5]
  exact word_of_bytes c.alarmMask

theorem sum_read : fieldAt (blockBytes c) 93 = blockSum (blockBody c) := by
  unfold fieldAt byteAt
  rw [getD_back h 6, getD_back h 7]
  exact field_of_lt (Nat.mod_lt _ (by decide))

theorem length_blockBytes : (blockBytes c).length = 95 := by
  unfold blockBytes; rw [List.length_append, length_blockBody h, length_bytes16]

theorem checksPass_blockBytes : checksPass (blockBytes c) = true := by
  have hmagic : fieldAt (blockBytes c) 0 = magicWord := by
    unfold fieldAt byteAt
    rw [getD_front c (by decide), getD_front c (by decide)]
    exact field_of_lt (by decide)
  have hlength : fieldAt (blockBytes c) 2 = blockLength := by
    unfold fieldAt byteAt
    rw [getD_front c (by decide), getD_front c (by decide)]
    exact field_of_lt (by decide)
  have hsum : blockSum (blockBytes c) = blockSum (blockBody c) := by
    unfold blockSum blockBytes
    rw [List.take_left' (length_blockBody h), List.take_of_length_le (Nat.le_of_eq (length_blockBody h))]
  unfold checksPass
  rw [hmagic, hlength, hsum, sum_read h]
  simp only [beq_self_eq_true, Bool.and_self]

end

/-- Every field is read where it was laid out. -/
theorem readBlock_blockBytes {c : Configuration} (h : Fits c) : readBlock (blockBytes c) = c := by
  have byte (i n : Nat) (hi : i < 53 := by decide) (hmem : n ∈ byteFields c := by simp [byteFields])
      (hbyte : (front c).getD i 0 = byteOf n := by rfl) := byte_front h hi hmem hbyte
  have word (i n : Nat) (hi : i + 1 < 53 := by decide) (hmem : n ∈ wordFields c := by simp [wordFields])
      (hhigh : (front c).getD i 0 = BitVec.ofNat 8 (n / 256) := by rfl)
      (hlow : (front c).getD (i + 1) 0 = BitVec.ofNat 8 n := by rfl) := word_front h hi hmem hhigh hlow
  have hoptions : (blockBytes c).getD 8 0 = c.options := getD_front c (by decide)
  have averaging_read : byteAt (blockBytes c) 61 = c.averaging := byte_middle h (i := 0) (by decide) (by simp [byteFields]) rfl
  have tlimit_read : fieldAt (blockBytes c) 62 = c.tlimit := word_middle h (i := 1) (by decide) (by simp [wordFields]) rfl rfl
  have refTol_read : byteAt (blockBytes c) 64 = c.refTol := byte_middle h (i := 3) (by decide) (by simp [byteFields]) rfl
  have spRun_read : fieldAt (blockBytes c) 65 = c.spRun := word_middle h (i := 4) (by decide) (by simp [wordFields]) rfl rfl
  have spStby_read : fieldAt (blockBytes c) 67 = c.spStby := word_middle h (i := 6) (by decide) (by simp [wordFields]) rfl rfl
  have bias_read : byteAt (blockBytes c) 69 = c.bias := byte_middle h (i := 8) (by decide) (by simp [byteFields]) rfl
  have gain_read : byteAt (blockBytes c) 70 = c.gain := byte_middle h (i := 9) (by decide) (by simp [byteFields]) rfl
  unfold readBlock
  rw [byte 4 c.stage, byte 5 c.stages, byte 6 c.position, byte 7 c.lanes, hoptions, byte 9 c.evidence, word 10 c.minIndex,
    word 12 c.motion, byte 14 c.settle, word 15 c.release, word 17 c.closeTimeout, word 19 c.openTimeout, word 21 c.idleTimeout,
    word 23 c.dryPeriod, word 25 c.nconf, word 27 c.nmin, byte 29 c.lead, word 30 c.tact, word 32 c.pmin, word 34 c.pref,
    word 36 c.share1, word 38 c.share2, word 40 c.share3, word 42 c.share4, word 44 c.dtarget, word 46 c.dmin, word 48 c.dmax,
    word 50 c.pspan, poffset_read h, offsets_read h, averaging_read, tlimit_read, refTol_read, spRun_read, spStby_read, bias_read,
    gain_read, weights_read h, feed_read h, cls_read h, budget_read h, alarmMask_read h]

/-! ## A clamped block fits -/

theorem signedByteAt_range (b : List Byte) (i : Nat) : -128 ≤ signedByteAt b i ∧ signedByteAt b i ≤ 127 := by
  have hlow := BitVec.le_toInt (b.getD i 0)
  have hhigh := BitVec.toInt_lt (x := b.getD i 0)
  unfold signedByteAt
  exact ⟨hlow, Int.le_sub_one_of_lt hhigh⟩

theorem clampNat_lt {x lo hi m : Nat} (hlo : lo < m) (hx : x < m) : clampNat x lo hi < m :=
  max_lt hlo (Nat.lt_of_le_of_lt (Nat.min_le_right hi x) hx)

theorem min_lt {x k m : Nat} (hx : x < m) : min k x < m := Nat.lt_of_le_of_lt (Nat.min_le_right k x) hx

/-- Each field is read from its bytes and clamped to no more than they hold. -/
theorem fits_clampBlock (b : List Byte) : Fits (clampBlock (readBlock b)) := by
  have byte := byteAt_lt b
  have word := fieldAt_lt b
  refine ⟨?_, ?_, ?_, ?_, ?_, ?_⟩
  · simp only [byteFields, clampBlock, clampDependents, clampFields, readBlock, List.forall_mem_cons]
    exact ⟨byte 4, byte 5, min_lt (byte 6), clampNat_lt (by decide) (byte 7), clampNat_lt (by decide) (byte 9), byte 14,
      min_lt (byte 29), min_lt (byte 61), byte 64, min_lt (byte 69), byte 70, min_lt (byte 87), by simp⟩
  · simp only [wordFields, clampBlock, clampDependents, clampFields, readBlock, List.forall_mem_cons]
    exact ⟨clampNat_lt (by decide) (word 10), word 12, word 15, clampNat_lt (by decide) (word 17), clampNat_lt (by decide) (word 19),
      clampNat_lt (by decide) (word 21), clampNat_lt (by decide) (word 23), clampNat_lt (by decide) (word 25),
      clampNat_lt (by decide) (word 27), min_lt (word 30), min_lt (word 32),
      max_lt (min_lt (word 32)) (clampNat_lt (by decide) (word 34)), word 36, word 38, word 40, word 42, word 44, min_lt (word 46),
      max_lt (word 44) (word 48), clampNat_lt (by decide) (word 50), min_lt (word 62), min_lt (word 65), min_lt (word 67), word 89,
      by simp⟩
  · rfl
  · rfl
  · intro n hn
    rcases List.mem_cons.mp hn with rfl | hn
    · show -128 ≤ clampInt _ (-100) 100 ∧ clampInt _ (-100) 100 ≤ 127
      unfold clampInt; omega
    · obtain ⟨i, _, rfl⟩ := List.mem_map.mp hn
      exact signedByteAt_range b (53 + i)
  · intro n hn
    obtain ⟨w, hw, rfl⟩ := List.mem_map.mp hn
    obtain ⟨i, _, rfl⟩ := List.mem_map.mp hw
    exact min_lt (word (71 + 2 * i))

/-- Settles O52: a clamped block fits, so it is read back. -/
theorem configurationBlockRoundTrip : Obligations.ConfigurationBlockRoundTrip := fun b =>
  ⟨length_blockBytes (fits_clampBlock b), checksPass_blockBytes (fits_clampBlock b), readBlock_blockBytes (fits_clampBlock b)⟩

end Sys2Proof.Machine.Block
end

section
/-! What an occurrence and a tick add to the monitor counters (O50, R172, R174, R176 to R179): the conditions at one counter, and the
monitor as the conditions of a tick find it. -/

namespace Sys2Proof.Machine.MonitorCounts

open CounterAdditions

/-! ## A condition at one counter (R176, R177) -/

section

variable {f : Control → Option Bool} {m : Monitor} {i : Nat} {k : Control} {c : Counter}

theorem takeConditions_control (f : Control → Option Bool) (hcontrol : m.controls[i]? = some k) :
    (takeConditions f m).controls[i]? = some (rememberCondition (f k) k) := by
  rw [(takeConditions_leaves f m).1, List.getElem?_map, hcontrol]; rfl

theorem takeConditions_counter (f : Control → Option Bool) (hfrozen : m.frozen = none) (hcontrol : m.controls[i]? = some k)
    (hcounter : m.counters[i]? = some c) :
    (takeConditions f m).counters[i]? = some (addTo c (conditionAmount (f k) k)) :=
  addAll_counters_getElem? hfrozen hcontrol hcounter _

/-- A counter whose condition is not evaluated keeps its value and its edge memory. -/
theorem takeConditions_idle (hidle : f k = none) (hcontrol : m.controls[i]? = some k) (hcounter : m.counters[i]? = some c) :
    (takeConditions f m).controls[i]? = some k ∧ (takeConditions f m).counters[i]? = some c := by
  refine ⟨by rw [takeConditions_control f hcontrol, hidle]; rfl, ?_⟩
  cases hfrozen : m.frozen with
  | none => rw [takeConditions_counter f hfrozen hcontrol hcounter, hidle]; exact congrArg some (addTo_zero c)
  | some x => rw [(takeConditions_leaves f m).2.2.2 (by simp [hfrozen]), hcounter]

/-- A counter whose condition is evaluated takes it into its edge memory, and counts ticks or rises. -/
theorem takeConditions_evaluated {b : Bool} (hcondition : f k = some b) (hcontrol : m.controls[i]? = some k) :
    (takeConditions f m).controls[i]? = some { k with memory := b } ∧
      (m.frozen = none → m.counters[i]? = some c →
        (takeConditions f m).counters[i]? = some (if b = true ∧ ¬(k.edge = true ∧ k.memory = true) then addTo c 1 else c)) := by
  refine ⟨by rw [takeConditions_control f hcontrol, hcondition]; rfl, fun hfrozen hcounter => ?_⟩
  rw [takeConditions_counter f hfrozen hcontrol hcounter, hcondition]
  unfold conditionAmount
  cases b <;> cases k.edge <;> cases k.memory <;> simp [bitOf]

end

/-- The value b that a condition takes at a counter is the condition as it stands, inverted under invert. -/
theorem invert_condition {held : Prop} {q invert b : Bool} (hheld : held ↔ q = true) (hb : b = true ↔ ¬(held ↔ invert = true)) :
    (invert ^^ q) = b := by
  rw [hheld] at hb
  clear hheld
  revert q invert b
  decide

theorem lane_condition {held : Prop} {t : Control} {n : Nat} {holds : Nat → Bool} {b : Bool} (hmask : t.mask ≠ 0)
    (hheld : held ↔ ∃ l, l < n ∧ t.mask.getLsbD l = true ∧ holds l = true) (hb : b = true ↔ ¬(held ↔ t.invert = true)) :
    laneCondition t (List.range n) holds = some b := by
  unfold laneCondition
  rw [if_neg hmask]
  refine congrArg some (invert_condition (hheld.trans ?_) hb)
  simp only [List.any_eq_true, List.mem_range, Bool.and_eq_true]

/-! ## Which conditions a counter evaluates (R176) -/

section

variable {p : Part} {lost : Bool} {k : Control}

theorem conditionAt_of_select (henable : k.enable = true) :
    conditionAt p lost k =
      if k.select = 23 then laneCondition k (lanesInUse (cfg p)) (heaterSeen p)
      else if k.select = 26 then some (k.invert ^^ decide (p.sequencer.platen ≠ .opened))
      else if k.select = 27 then some (k.invert ^^ lost)
      else if k.select = 28 then some (k.invert ^^ stopped p)
      else none := by
  unfold conditionAt; rw [henable]; rfl

theorem regulatorConditionAt_of_select (henable : k.enable = true) :
    regulatorConditionAt p k =
      if k.select = 24 then laneCondition k (lanesInUse (cfg p)) (belowSetpoint p)
      else if k.select = 25 then some (k.invert ^^ decide (p.regulator.scale < 256))
      else none := by
  unfold regulatorConditionAt; rw [henable]; rfl

theorem conditionAt_disabled (henable : k.enable = false) : conditionAt p lost k = none := by unfold conditionAt; rw [henable]; rfl

theorem regulatorConditionAt_disabled (henable : k.enable = false) : regulatorConditionAt p k = none := by
  unfold regulatorConditionAt; rw [henable]; rfl

theorem conditionAt_none
    (h : k.enable = false ∨ k.select < 23 ∨ k.select = 23 ∧ k.mask = 0 ∨ k.select = 24 ∨ k.select = 25) :
    conditionAt p lost k = none := by
  cases henable : k.enable with
  | false => exact conditionAt_disabled henable
  | true =>
    rw [henable] at h
    rw [conditionAt_of_select henable]
    split
    · have hmask : k.mask = 0 := by
        rcases h with h | h | ⟨-, h⟩ | h | h
        · cases h
        · omega
        · exact h
        · omega
        · omega
      exact if_pos hmask
    · rw [if_neg, if_neg, if_neg] <;> simp only [Bool.true_eq_false, false_or] at h <;> omega

theorem regulatorConditionAt_none (h : k.enable = false ∨ k.select < 24 ∨ k.select = 24 ∧ k.mask = 0 ∨ 25 < k.select) :
    regulatorConditionAt p k = none := by
  cases henable : k.enable with
  | false => exact regulatorConditionAt_disabled henable
  | true =>
    rw [henable] at h
    rw [regulatorConditionAt_of_select henable]
    split
    · have hmask : k.mask = 0 := by
        rcases h with h | h | ⟨-, h⟩ | h
        · cases h
        · omega
        · exact h
        · omega
      exact if_pos hmask
    · rw [if_neg]; simp only [Bool.true_eq_false, false_or] at h; omega

theorem stopped_iff :
    stopped p = true ↔
      p.control.lineStop = true ∨ p.control.mode = .hold ∨ p.control.mode = .dry ∨ p.control.mode = .fault := by
  unfold stopped
  cases p.control.mode <;> simp [modeHoldsOff]

end

/-! ## The monitor as the tick's conditions find it (R174, R178) -/

/-- The monitor after the fixed counter and the queue's length. -/
def beforeConditions (p : Part) : Monitor := occur .txqOccupancy p.port.queue.length (countTick p.monitor)

theorem countTick_leaves (m : Monitor) :
    (countTick m).controls = m.controls ∧ (countTick m).frozen = m.frozen ∧ (countTick m).snapshot = m.snapshot ∧
      (m.frozen ≠ none → countTick m = m) ∧ ∀ i < 6, (countTick m).counters[i]? = m.counters[i]? := by
  unfold countTick
  cases hfrozen : m.frozen with
  | some x => simp [hfrozen]
  | none =>
    refine ⟨rfl, rfl, rfl, fun h => absurd rfl h, fun i hi => ?_⟩
    exact (updateAt_getElem? _ _ _ _).trans (if_neg (by omega))

section

variable (p : Part) {i : Nat} {k : Control} {c : Counter}

theorem beforeConditions_leaves :
    (beforeConditions p).controls = p.monitor.controls ∧ (beforeConditions p).frozen = p.monitor.frozen ∧
      (beforeConditions p).snapshot = p.monitor.snapshot ∧
      (p.monitor.frozen ≠ none → (beforeConditions p).counters = p.monitor.counters) := by
  obtain ⟨hcontrols, hfrozen, hsnapshot, hsame, -⟩ := countTick_leaves p.monitor
  obtain ⟨hc, hf, hs, hz⟩ := addAll_leaves
    (fun t => if t.enable && t.select == eventCode .txqOccupancy then added t p.port.queue.length else 0) (countTick p.monitor)
  refine ⟨hc.trans hcontrols, hf.trans hfrozen, hs.trans hsnapshot, fun h => ?_⟩
  exact congrArg Monitor.counters ((hz (hfrozen ▸ h)).trans (hsame h))

variable {p}

theorem beforeConditions_counter (hi : i < 6) (hfrozen : p.monitor.frozen = none) (hcontrol : p.monitor.controls[i]? = some k)
    (hcounter : p.monitor.counters[i]? = some c) :
    (beforeConditions p).counters[i]? =
      some (if k.enable = true ∧ k.select = 22 then addTo c (added k p.port.queue.length) else c) := by
  obtain ⟨hcontrols, hf, -, -, hkept⟩ := countTick_leaves p.monitor
  exact occur_counters_getElem? (hf.trans hfrozen) (hcontrols ▸ hcontrol) ((hkept i hi).trans hcounter) _ _

theorem beforeConditions_kept (hi : i < 6) (hcontrol : p.monitor.controls[i]? = some k)
    (hcounter : p.monitor.counters[i]? = some c) (hother : ¬(k.enable = true ∧ k.select = 22)) :
    (beforeConditions p).counters[i]? = some c := by
  cases hfrozen : p.monitor.frozen with
  | none => rw [beforeConditions_counter hi hfrozen hcontrol hcounter, if_neg hother]
  | some x => rw [(beforeConditions_leaves p).2.2.2 (by simp [hfrozen]), hcounter]

end

theorem monitorTick_monitor (lost : Bool) (p : Part) :
    (monitorTick lost p).monitor = takeConditions (conditionAt p lost) (beforeConditions p) := rfl

theorem readRegulator_monitor (p : Part) : (readRegulator p).monitor = takeConditions (regulatorConditionAt p) p.monitor := by
  unfold readRegulator raiseIf; split <;> rfl

/-! ## Occurrences -/

theorem occur_eta (e : Event) (n : Nat) (m : Monitor) : occur e n m = { m with counters := (occur e n m).counters } := by
  unfold occur addAll; split <;> rfl

theorem occurLane_eta (e : Event) (lane n : Nat) (m : Monitor) :
    occurLane e lane n m = { m with counters := (occurLane e lane n m).counters } := by
  unfold occurLane addAll; split <;> rfl

/-- Settles O50: occurrences by `addAll`, the tick's conditions one by one. -/
theorem eventsAreCounted : Obligations.EventsAreCounted := by
  rintro p m i k c rfl hi hcontrol hcounter
  refine ⟨fun e lane n hfrozen => ⟨occur_counters_getElem? hfrozen hcontrol hcounter e n,
      occurLane_counters_getElem? hfrozen hcontrol hcounter e lane n, occur_eta e n _, occurLane_eta e lane n _⟩,
    fun e lane n hfrozen => ⟨(addAll_leaves _ _).2.2.2 hfrozen, (addAll_leaves _ _).2.2.2 hfrozen⟩, ?_⟩
  rintro lost t u rfl rfl
  rw [monitorTick_monitor, readRegulator_monitor]
  obtain ⟨hcontrols, hfreeze, hsnapshot, hsame⟩ := beforeConditions_leaves p
  obtain ⟨-, htfrozen, htsnapshot, htsame⟩ := takeConditions_leaves (conditionAt p lost) (beforeConditions p)
  obtain ⟨-, hufrozen, husnapshot, husame⟩ := takeConditions_leaves (regulatorConditionAt p) p.monitor
  have hbefore : (beforeConditions p).controls[i]? = some k := hcontrols ▸ hcontrol
  have hidle (hnone : conditionAt p lost k = none) :
      (takeConditions (conditionAt p lost) (beforeConditions p)).controls[i]? = some k := by
    rw [takeConditions_control _ hbefore, hnone]; rfl
  refine ⟨htfrozen.trans hfreeze, htsnapshot.trans hsnapshot, fun h => (htsame (hfreeze ▸ h)).trans (hsame h), ?occupancy, hufrozen,
    husnapshot, husame, fun h => hidle (conditionAt_none h), ?unselected, ?unread, ?held⟩
  case occupancy =>
    intro henable hselect hfrozen
    have hcount := beforeConditions_counter hi hfrozen hcontrol hcounter
    rw [if_pos ⟨henable, hselect⟩] at hcount
    exact (takeConditions_idle (conditionAt_none (by omega)) hbefore hcount).2
  case unselected =>
    intro h
    have hother : ¬(k.enable = true ∧ k.select = 22) := by
      rintro ⟨henable, hselect⟩
      rcases h with h | h | ⟨h, -⟩ | h | h
      · exact Bool.noConfusion (henable.symm.trans h)
      all_goals omega
    exact (takeConditions_idle (conditionAt_none (h.imp_right (Or.imp_left fun h => by omega))) hbefore
      (beforeConditions_kept hi hcontrol hcounter hother)).2
  case unread => exact fun h => takeConditions_idle (regulatorConditionAt_none h) hcontrol hcounter
  case held =>
    intro held b x henable hwhich hb
    have htick (hcondition : conditionAt p lost k = some b) (hselect : k.select ≠ 22)
        (hx : x = takeConditions (conditionAt p lost) (beforeConditions p)) :
        x.controls[i]? = some { k with memory := b } ∧ (p.monitor.frozen = none → x.counters[i]? =
          some (if b = true ∧ ¬(k.edge = true ∧ k.memory = true) then addTo c 1 else c)) := by
      obtain ⟨hmemory, hcount⟩ := takeConditions_evaluated (c := c) hcondition hbefore
      exact hx ▸ ⟨hmemory, fun hfrozen => hcount (hfreeze.trans hfrozen)
        (beforeConditions_kept hi hcontrol hcounter fun h => hselect h.2)⟩
    have hread (hcondition : regulatorConditionAt p k = some b)
        (hx : x = takeConditions (regulatorConditionAt p) p.monitor) :
        x.controls[i]? = some { k with memory := b } ∧ (p.monitor.frozen = none → x.counters[i]? =
          some (if b = true ∧ ¬(k.edge = true ∧ k.memory = true) then addTo c 1 else c)) := by
      obtain ⟨hmemory, hcount⟩ := takeConditions_evaluated (c := c) hcondition hcontrol
      exact hx ▸ ⟨hmemory, fun hfrozen => hcount hfrozen hcounter⟩
    rcases hwhich with ⟨hs, hmask, hx, hheld⟩ | ⟨hs, hmask, hx, hheld⟩ | ⟨hs, hx, hheld⟩ | ⟨hs, hx, hheld⟩ | ⟨hs, hx, hheld⟩ |
      ⟨hs, hx, hheld⟩
    · refine htick ?_ (by omega) hx
      rw [conditionAt_of_select henable, hs]
      exact lane_condition hmask hheld hb
    · refine hread ?_ hx
      rw [regulatorConditionAt_of_select henable, hs]
      exact lane_condition (holds := belowSetpoint p) hmask (by simpa only [belowSetpoint, decide_eq_true_eq] using hheld) hb
    · refine hread ?_ hx
      rw [regulatorConditionAt_of_select henable, hs]
      exact congrArg some (invert_condition (hheld.trans decide_eq_true_iff.symm) hb)
    · refine htick ?_ (by omega) hx
      rw [conditionAt_of_select henable, hs]
      exact congrArg some (invert_condition (hheld.trans decide_eq_true_iff.symm) hb)
    · refine htick ?_ (by omega) hx
      rw [conditionAt_of_select henable, hs]
      exact congrArg some (invert_condition hheld hb)
    · refine htick ?_ (by omega) hx
      rw [conditionAt_of_select henable, hs]
      exact congrArg some (invert_condition (hheld.trans stopped_iff.symm) hb)

end Sys2Proof.Machine.MonitorCounts
end

section
/-! Changes of a part that sending a frame does not see: they come before or after a joining alike. -/

namespace Sys2Proof.Machine.Joining

/-- A change of what neither the transmit queue, the counters, the alarms nor a frame's header read. -/
structure Blind (f : Part → Part) : Prop where
  keepsPort : ∀ p, (f p).port = p.port
  keepsMonitor : ∀ p, (f p).monitor = p.monitor
  keepsAlarms : ∀ p, (f p).control.alarms = p.control.alarms
  keepsLoader : ∀ p, (f p).loader = p.loader
  keepsH : ∀ p, (f p).tracker.h = p.tracker.h
  setPort : ∀ p x, f { p with port := x } = { f p with port := x }
  setMonitor : ∀ p x, f { p with monitor := x } = { f p with monitor := x }
  setAlarms : ∀ p x,
    f { p with control := { p.control with alarms := x } } = { f p with control := { (f p).control with alarms := x } }

section

variable {f : Part → Part} (hf : Blind f) (p : Part)
include hf

theorem withQueue_blind (q : List TxFrame) : withQueue q (f p) = f (withQueue q p) := by
  rw [show f (withQueue q p) = _ from hf.setPort p _, ← hf.keepsPort p]; rfl

theorem count_blind (e : Event) : count e (f p) = f (count e p) := by
  rw [show f (count e p) = _ from hf.setMonitor p _, ← hf.keepsMonitor p]; rfl

theorem raise_blind (a : Alarm) : raise a (f p) = f (raise a p) := by
  rw [show f (raise a p) = _ from hf.setAlarms p _, ← hf.keepsAlarms p]; rfl

theorem joinQueue_blind (x : TxFrame) : joinQueue x (f p) = f (joinQueue x p) := by
  unfold joinQueue
  simp only [hf.keepsPort, count_blind hf, raise_blind hf, withQueue_blind hf]
  split
  · split
    · split <;> rfl
    · split <;> rfl
  · split
    · rfl
    · split <;> rfl

theorem tryBegin_blind : tryBegin (f p) = f (tryBegin p) := by
  have hstation : ownStation (f p) = ownStation p := Outcomes.ownStation_congr (hf.keepsLoader p)
  unfold tryBegin transmitting
  rw [hstation, hf.keepsPort]
  split
  · exact (hf.setPort p _).symm
  · rfl

/-- Sending before or after such a change gives the same part. -/
theorem send_blind (b : FrameBody) : send b (f p) = f (send b p) := by
  have hbuilt : buildFrame b (f p) = buildFrame b p := by unfold buildFrame cfg; rw [hf.keepsH, hf.keepsLoader]
  unfold send join
  rw [hbuilt, joinQueue_blind hf, tryBegin_blind hf]

end

theorem blind_records (rs : List RowRecord) : Blind (fun p => { p with tracker := { p.tracker with records := rs } }) := by
  constructor <;> intros <;> rfl

end Sys2Proof.Machine.Joining
end

section
/-! The conclusion of a head row (O48, R37, R144 to R153): what each of its steps leaves in the part, and the lanes one by one. -/

namespace Sys2Proof.Machine.Concluding

open Joining

/-! ## Where the record is judged and the close was commanded (R37, R148) -/

section

variable {pt : ConclusionPoint} {p : Part} {row : RowRecord}

theorem forcedPoint_eq (pt : ConclusionPoint) : forcedPoint pt = decide (pt = .forcedIndex) := by cases pt <;> rfl

theorem judgedByPlan_iff : judgedByPlan pt row = true ↔ row.frozen = true ∧ ∀ reason, pt ≠ .retired reason := by
  cases pt <;> simp [judgedByPlan]

theorem closeWasCommanded_iff :
    closeWasCommanded pt p row = true ↔ judgedByPlan pt row = true ∧ p.dose.closeCommanded = true ∧ p.sequencer.dry = none := by
  simp only [closeWasCommanded, Bool.and_eq_true, Option.isNone_iff_eq_none, and_assoc]

end

/-! ## The lanes of the record (R144 to R147) -/

section

variable {c : Configuration} {row : RowRecord} {forced : Bool} {l : LaneDose} {e : LaneEntry}

theorem doseVerdict_eq (c : Configuration) (n : Nat) (doubt : Bool) :
    doseVerdict c n doubt =
      if c.stage = c.stages then
        if n < c.dmin then .under else if c.dmax < n then .over else if doubt then .doubt else .sealed
      else if c.dmax < n then .over
      else .pending := by
  simp only [doseVerdict, finalStage, beq_iff_eq]

/-- What a conclusion leaves of a lane's planning. -/
theorem concludeFrozenLane_plan :
    (concludeFrozenLane c row forced l e).plan = e.plan ∧ (concludeFrozenLane c row forced l e).aim = e.aim ∧
      (concludeFrozenLane c row forced l e).assumed = e.assumed ∧ (concludeFrozenLane c row forced l e).voided = e.voided := by
  unfold concludeFrozenLane; cases e.plan <;> simp

theorem concludeFrozenLane_marks (h : e.plan ≠ .press) :
    (concludeFrozenLane c row forced l e).sensor = e.sensor ∧ (concludeFrozenLane c row forced l e).drift = e.drift ∧
      (concludeFrozenLane c row forced l e).noContact = e.noContact ∧ (concludeFrozenLane c row forced l e).forced = e.forced := by
  unfold concludeFrozenLane; cases hplan : e.plan <;> simp_all

theorem concludeFrozenLane_holdOff (h : e.plan = .holdOff) :
    (concludeFrozenLane c row forced l e).verdict = .skipped ∧ (concludeFrozenLane c row forced l e).ownDose = 0 ∧
      (concludeFrozenLane c row forced l e).reason = e.planReason := by
  unfold concludeFrozenLane; rw [h]; exact ⟨rfl, rfl, rfl⟩

theorem concludeFrozenLane_press (h : e.plan = .press) :
    (concludeFrozenLane c row forced l e).ownDose = ownDose l.acc ∧ (concludeFrozenLane c row forced l e).reason = .none ∧
      (concludeFrozenLane c row forced l e).sensor = l.sensorEnd ∧ (concludeFrozenLane c row forced l e).drift = l.drift ∧
      (concludeFrozenLane c row forced l e).noContact = !l.sampled ∧ (concludeFrozenLane c row forced l e).forced = forced := by
  unfold concludeFrozenLane; rw [h]; exact ⟨rfl, rfl, rfl, rfl, rfl, rfl⟩

theorem concludeFrozenLane_notPressed (h : e.plan = .notPressed) :
    (concludeFrozenLane c row forced l e).ownDose = 0 ∧ (concludeFrozenLane c row forced l e).reason = .notNeeded := by
  unfold concludeFrozenLane; rw [h]; exact ⟨rfl, rfl⟩

/-- A lane that was pressed, or needed no press, is judged by its cumulative dose and its doubts. -/
theorem concludeFrozenLane_verdict (h : e.plan = .press ∨ e.plan = .notPressed) :
    (concludeFrozenLane c row forced l e).verdict =
      doseVerdict c (cumulativeDose c row e (concludeFrozenLane c row forced l e).ownDose)
        (doubtful (concludeFrozenLane c row forced l e)) := by
  unfold concludeFrozenLane
  rcases h with h | h <;> rw [h] <;> rfl

end

/-! ## The record (R149 step 1) -/

section

variable (pt : ConclusionPoint) (p : Part) (row : RowRecord)

theorem concludeRecord_eta : concludeRecord pt p row = { row with concluded := true, lanes := (concludeRecord pt p row).lanes } := rfl

theorem concludeRecord_length : (concludeRecord pt p row).lanes.length = row.lanes.length := by
  unfold concludeRecord; dsimp only; split <;> simp

variable {pt p row} {i : Nat} {e out : LaneEntry}

theorem concludeRecord_judged (hjudged : judgedByPlan pt row = true) (he : row.lanes[i]? = some e)
    (hout : (concludeRecord pt p row).lanes[i]? = some out) :
    out = concludeFrozenLane (cfg p) row (forcedPoint pt) (laneDose p i) e := by
  simp only [concludeRecord, hjudged, if_true, mapIndexed_getElem?, he, Option.map_some, Option.some.injEq] at hout
  exact hout.symm

theorem concludeRecord_skipped (hjudged : judgedByPlan pt row = false) (he : row.lanes[i]? = some e)
    (hout : (concludeRecord pt p row).lanes[i]? = some out) : out = skipLane (unfrozenReason pt) e := by
  simp only [concludeRecord, hjudged, Bool.false_eq_true, if_false, List.getElem?_map, he, Option.map_some,
    Option.some.injEq] at hout
  exact hout.symm

end

/-! ## The monitor's events (R149 step 4) -/

theorem mapIndexed_append {α β : Type} (f : Nat → α → β) (l : List α) (x : α) :
    mapIndexed f (l ++ [x]) = mapIndexed f l ++ [f l.length x] := by
  refine List.ext_getElem? fun i => ?_
  rw [mapIndexed_getElem?, List.getElem?_append, List.getElem?_append, mapIndexed_length]
  split
  · rw [mapIndexed_getElem?]
  · next h =>
    rcases Nat.eq_zero_or_pos (i - l.length) with hzero | hpos
    · rw [hzero, show i = l.length by omega]; rfl
    · obtain ⟨n, hn⟩ := Nat.exists_eq_succ_of_ne_zero hpos.ne'
      rw [hn]; rfl

/-- The monitor with an event counted at the lanes of a record that satisfy a test. -/
def countAtLanes (lanes : List LaneEntry) (m : Monitor) (x : Event × (LaneEntry → Bool) × (LaneEntry → Nat)) : Monitor :=
  (List.range lanes.length).foldl
    (fun m i =>
      match lanes[i]? with
      | some e => if x.2.1 e then occurLane x.1 i (x.2.2 e) m else m
      | none => m) m

theorem lanesWhere_append (t : LaneEntry → Bool) (amount : LaneEntry → Nat) (lanes : List LaneEntry) (e : LaneEntry) :
    lanesWhere t amount (lanes ++ [e]) =
      lanesWhere t amount lanes ++ (if t e then [(lanes.length, amount e)] else []) := by
  unfold lanesWhere
  rw [mapIndexed_append, List.filterMap_append, List.filterMap_cons, List.filterMap_nil]
  cases t e <;> rfl

/-- Counting at the lanes listed is counting lane by lane. -/
theorem foldl_lanesWhere (x : Event) (t : LaneEntry → Bool) (amount : LaneEntry → Nat) (lanes : List LaneEntry) (m : Monitor) :
    (lanesWhere t amount lanes).foldl (fun m y => occurLane x y.1 y.2 m) m = countAtLanes lanes m (x, t, amount) := by
  induction lanes using List.reverseRecOn with
  | nil => rfl
  | append_singleton lanes e ih =>
    have hbefore : (List.range lanes.length).foldl
        (fun m i =>
          match (lanes ++ [e])[i]? with
          | some e => if t e then occurLane x i (amount e) m else m
          | none => m) m = countAtLanes lanes m (x, t, amount) :=
      List.foldl_ext _ _ _ fun m i hi => by
        rw [List.getElem?_append_left (List.mem_range.mp hi)]
    rw [lanesWhere_append, List.foldl_append, ih]
    unfold countAtLanes at hbefore ⊢
    rw [List.length_append, List.length_singleton, List.range_succ, List.foldl_append, hbefore, List.foldl_cons, List.foldl_nil,
      List.getElem?_concat_length]
    dsimp only
    by_cases htest : t e = true
    · rw [if_pos htest, if_pos htest]; rfl
    · rw [if_neg htest, if_neg htest]; rfl

/-- The events of a row, in their order, each with the lanes it counts at and its amounts. -/
def rowEvents (judged : Bool) : List (Event × (LaneEntry → Bool) × (LaneEntry → Nat)) :=
  [(Event.lanePressed, fun e => judged && (e.plan == .press), fun _ => 1),
    (.laneSkipped, fun e => e.verdict == .skipped, fun _ => 1),
    (.verdictSealed, fun e => e.verdict == .sealed, fun _ => 1),
    (.verdictUnder, fun e => e.verdict == .under, fun _ => 1),
    (.verdictOver, fun e => e.verdict == .over, fun _ => 1),
    (.verdictDoubt, fun e => e.verdict == .doubt, fun _ => 1),
    (.laneDose, fun _ => true, fun e => e.ownDose)]

theorem pressed_lanes (judged : Bool) (lanes : List LaneEntry) :
    (if judged then lanesWhere presses (fun _ => 1) lanes else []) =
      lanesWhere (fun e => judged && (e.plan == .press)) (fun _ => 1) lanes := by
  cases judged with
  | true => rfl
  | false => exact (List.filterMap_eq_nil_iff.mpr fun _ _ => rfl).symm

theorem countRow_eq (judged : Bool) (lanes : List LaneEntry) (p : Part) :
    countRow judged lanes p = { p with monitor := (rowEvents judged).foldl (countAtLanes lanes) p.monitor } := by
  simp only [countRow, pressed_lanes, countLanes, lanesOf, foldl_lanesWhere, rowEvents, List.foldl_cons, List.foldl_nil]

theorem countRow_gives (judged : Bool) (lanes : List LaneEntry) (p : Part) :
    (countRow judged lanes p).tracker = p.tracker ∧ (countRow judged lanes p).port = p.port ∧
      (countRow judged lanes p).dose = p.dose ∧ (countRow judged lanes p).loader = p.loader ∧
      (countRow judged lanes p).log = p.log ∧ (countRow judged lanes p).control = p.control ∧
      (countRow judged lanes p).monitor = (rowEvents judged).foldl (countAtLanes lanes) p.monitor := by
  rw [countRow_eq]; exact ⟨rfl, rfl, rfl, rfl, rfl, rfl, rfl⟩

/-! ## The dwell log (R149 step 3, R151) -/

section

variable {pt : ConclusionPoint} {p : Part} {row : RowRecord} {rest : List RowRecord}

theorem logCycle_eq (tag : Tag) (dry aborted forced : Bool) (p : Part) :
    logCycle tag dry aborted forced p =
      { p with
        tracker := { p.tracker with chatter := false },
        log := (logCycle tag dry aborted forced p).log,
        control := (raiseIf (decide (64 ≤ p.log.entries.length)) .logOverflow p).control } := by
  unfold logCycle addEntry
  rcases Nat.lt_or_ge p.log.entries.length 64 with hroom | hfull
  · rw [if_pos (show (clearChatter p).log.entries.length < 64 from hroom), decide_eq_false (Nat.not_le.mpr hroom)]; rfl
  · rw [if_neg (show ¬(clearChatter p).log.entries.length < 64 from Nat.not_lt.mpr hfull), decide_eq_true hfull]; rfl

/-! ## The steps of a conclusion, in order (R149) -/

/-- The report sent, before the record, the log and the counters follow. -/
def reported (pt : ConclusionPoint) (p : Part) (row : RowRecord) : Part :=
  send (.sealReport (sealReportOf pt p (concludeRecord pt p row))) p

/-- The report is built with the marks of the cycle that closed, whatever else the record holds. -/
theorem closeWasCommanded_done : closeWasCommanded pt p (concludeRecord pt p row) = closeWasCommanded pt p row := by
  unfold closeWasCommanded judgedByPlan; cases pt <;> rfl

theorem reported_eq (hrecords : p.tracker.records = row :: rest) :
    send (.sealReport (sealReportOf pt p (concludeRecord pt p row))) (updateHead (fun _ => concludeRecord pt p row) p) =
      { reported pt p row with
        tracker := { p.tracker with records := concludeRecord pt p row :: rest } } := by
  have hhead : updateHead (fun _ => concludeRecord pt p row) p =
      { p with tracker := { p.tracker with records := concludeRecord pt p row :: rest } } := by
    unfold updateHead withRecords; rw [hrecords]
  rw [hhead, send_blind (blind_records _)]
  exact congrArg (fun t : Tracker => { reported pt p row with tracker := { t with records := concludeRecord pt p row :: rest } })
    (send_tracker _ _)

/-- The part after the report and the entry. -/
def entered (pt : ConclusionPoint) (p : Part) (row : RowRecord) (rest : List RowRecord) : Part :=
  let sent := { reported pt p row with tracker := { p.tracker with records := concludeRecord pt p row :: rest } }
  if closeWasCommanded pt p row then logCycle row.tag false p.dose.cut (forcedPoint pt) sent else sent

theorem concludeWith_eq (hrecords : p.tracker.records = row :: rest) :
    concludeWith pt row p =
      countUnder (concludeRecord pt p row).lanes
        (countRow (judgedByPlan pt row) (concludeRecord pt p row).lanes (entered pt p row rest)) := by
  unfold concludeWith entered
  dsimp only
  rw [reported_eq hrecords]

theorem countUnder_final {p : Part} (lanes : List LaneEntry) (hfinal : (cfg p).stage = (cfg p).stages) :
    countUnder lanes p =
      (let n := if lanes.any (fun e => e.verdict == .under) then min 3 (p.dose.underCount + 1) else 0
       raiseIf (decide (n = 3)) .underRun { p with dose := { p.dose with underCount := n } }) := by
  unfold countUnder finalStage; rw [hfinal, beq_self_eq_true]; rfl

theorem countUnder_other {p : Part} (lanes : List LaneEntry) (hother : (cfg p).stage ≠ (cfg p).stages) : countUnder lanes p = p := by
  unfold countUnder finalStage; exact if_neg (by simpa using hother)

/-- What the cycle's entry depends on. -/
theorem entryIs_congr {p q : Part} {x : LogEntry} {tag : Tag} {dry aborted forced : Bool} (hdose : q.dose = p.dose)
    (hchatter : q.tracker.chatter = p.tracker.chatter) (hloader : q.loader = p.loader)
    (h : EntryIs x p tag dry aborted forced) : EntryIs x q tag dry aborted forced := by
  unfold EntryIs laneDose cfg at h ⊢; rw [hdose, hchatter, hloader]; exact h

theorem loggedIn_congr {p q : Part} {x : LogEntry} {l : DwellLog} (hlog : q.log = p.log) (hloader : q.loader = p.loader)
    (h : LoggedIn l x q) : LoggedIn l x p := by
  unfold LoggedIn cfg at h ⊢; rw [hlog, hloader] at h; exact h

theorem entered_gives {x : LogEntry} (hx : EntryIs x p row.tag false p.dose.cut (forcedPoint pt)) :
    (entered pt p row rest).tracker =
        { p.tracker with
          records := concludeRecord pt p row :: rest,
          chatter := if closeWasCommanded pt p row then false else p.tracker.chatter } ∧
      (entered pt p row rest).port = (reported pt p row).port ∧
      (entered pt p row rest).monitor = (reported pt p row).monitor ∧ (entered pt p row rest).dose = p.dose ∧
      (entered pt p row rest).loader = p.loader ∧
      (if closeWasCommanded pt p row then LoggedIn (entered pt p row rest).log x p
        else (entered pt p row rest).log = p.log) ∧
      (entered pt p row rest).control =
        (raiseIf (closeWasCommanded pt p row && decide (64 ≤ p.log.entries.length)) .logOverflow (reported pt p row)).control := by
  have hdose : (reported pt p row).dose = p.dose := send_dose _ _
  have hlog : (reported pt p row).log = p.log := send_log _ _
  have hloader : (reported pt p row).loader = p.loader := send_loader _ _
  unfold entered
  cases closeWasCommanded pt p row with
  | false => exact ⟨rfl, rfl, rfl, hdose, hloader, hlog, rfl⟩
  | true =>
    have hlogged : LoggedIn (logCycle row.tag false p.dose.cut (forcedPoint pt)
        { reported pt p row with tracker := { p.tracker with records := concludeRecord pt p row :: rest } }).log x p :=
      loggedIn_congr hlog hloader (logCycle_logged (entryIs_congr hdose rfl hloader hx))
    simp only [if_true]
    rw [logCycle_eq]
    refine ⟨rfl, rfl, rfl, hdose, hloader, hlogged, ?_⟩
    show (raiseIf (decide (64 ≤ (reported pt p row).log.entries.length)) .logOverflow _).control = _
    rw [hlog, Bool.true_and]
    unfold raiseIf; split <;> rfl

/-- What the count of the run leaves alone, and the run itself (R149 step 5, R153). -/
theorem countUnder_gives (lanes : List LaneEntry) (p : Part) :
    (countUnder lanes p).tracker = p.tracker ∧ (countUnder lanes p).port = p.port ∧ (countUnder lanes p).monitor = p.monitor ∧
      (countUnder lanes p).log = p.log ∧
      (countUnder lanes p).dose =
        { p.dose with
          underCount :=
            if (cfg p).stage = (cfg p).stages then
              if lanes.any (fun e => e.verdict == .under) then min 3 (p.dose.underCount + 1) else 0
            else p.dose.underCount } ∧
      (countUnder lanes p).control =
        (raiseIf (decide ((cfg p).stage = (cfg p).stages ∧ (countUnder lanes p).dose.underCount = 3)) .underRun p).control := by
  by_cases hfinal : (cfg p).stage = (cfg p).stages
  · rw [countUnder_final lanes hfinal, if_pos hfinal]
    dsimp only
    generalize (if lanes.any (fun e => e.verdict == .under) then min 3 (p.dose.underCount + 1) else 0) = n
    by_cases hrun : n = 3
    · simp only [hrun, hfinal, raiseIf, decide_true, if_true, raise_dose, and_self]
      exact ⟨rfl, rfl, rfl, rfl, trivial, rfl⟩
    · simp [hrun, hfinal, raiseIf]
  · rw [countUnder_other lanes hfinal, if_neg hfinal]
    exact ⟨rfl, rfl, rfl, rfl, rfl, by simp [hfinal, raiseIf]⟩

end

/-! ## The conclusion as a whole -/

section

variable {pt : ConclusionPoint} {p : Part} {row : RowRecord}

theorem conclude_lane {i : Nat} {e out : LaneEntry} (he : row.lanes[i]? = some e)
    (hout : (concludeRecord pt p row).lanes[i]? = some out) :
    out.plan = e.plan ∧ out.aim = e.aim ∧ out.assumed = e.assumed ∧ out.voided = e.voided ∧
      (judgedByPlan pt row = false ∨ e.plan ≠ .press →
        out.sensor = e.sensor ∧ out.drift = e.drift ∧ out.noContact = e.noContact ∧ out.forced = e.forced) ∧
      (judgedByPlan pt row = false → out.verdict = .skipped ∧ out.ownDose = 0 ∧ out.reason = unfrozenReason pt) ∧
      (judgedByPlan pt row = true → e.plan = .holdOff →
        out.verdict = .skipped ∧ out.ownDose = 0 ∧ out.reason = e.planReason) ∧
      (judgedByPlan pt row = true → e.plan = .press →
        out.ownDose = ownDose (laneDose p i).acc ∧ out.reason = .none ∧ out.sensor = (laneDose p i).sensorEnd ∧
          out.drift = (laneDose p i).drift ∧ out.noContact = !(laneDose p i).sampled ∧ out.forced = forcedPoint pt) ∧
      (judgedByPlan pt row = true → e.plan = .notPressed → out.ownDose = 0 ∧ out.reason = .notNeeded) ∧
      (judgedByPlan pt row = true → e.plan = .press ∨ e.plan = .notPressed →
        out.verdict = doseVerdict (cfg p) (cumulativeDose (cfg p) row e out.ownDose) (doubtful out)) := by
  cases hjudged : judgedByPlan pt row with
  | false =>
    rw [concludeRecord_skipped hjudged he hout]
    refine ⟨rfl, rfl, rfl, rfl, fun _ => ⟨rfl, rfl, rfl, rfl⟩, fun _ => ⟨rfl, rfl, rfl⟩, ?_, ?_, ?_, ?_⟩ <;>
      exact fun h => absurd h (by decide)
  | true =>
    rw [concludeRecord_judged hjudged he hout]
    obtain ⟨hplan, haim, hassumed, hvoided⟩ := concludeFrozenLane_plan (c := cfg p) (row := row) (forced := forcedPoint pt)
      (l := laneDose p i) (e := e)
    exact ⟨hplan, haim, hassumed, hvoided, fun h => concludeFrozenLane_marks (h.resolve_left (by decide)),
      fun h => absurd h (by decide), fun _ => concludeFrozenLane_holdOff, fun _ => concludeFrozenLane_press,
      fun _ => concludeFrozenLane_notPressed, fun _ => concludeFrozenLane_verdict⟩

end

theorem cfg_congr {p q : Part} (h : q.loader = p.loader) : cfg q = cfg p := by unfold cfg; rw [h]

theorem raiseIf_control_congr {p q : Part} (b : Bool) (a : Alarm) (h : p.control = q.control) :
    (raiseIf b a p).control = (raiseIf b a q).control := by
  unfold raiseIf raise; split
  · dsimp only; rw [h]
  · exact h

theorem alarmSet_underRun {p t : Part} {b : Bool} (hb : b = true) (hcontrol : t.control = (raiseIf b .underRun p).control) :
    alarmSet .underRun t = true := by
  subst hb
  unfold alarmSet
  rw [hcontrol]
  show (p.control.alarms ||| alarmWord .underRun).getLsbD 15 = true
  rw [BitVec.getLsbD_or, show (alarmWord .underRun).getLsbD 15 = true by decide, Bool.or_true]

/-- Settles O48: record, report, entry, events and run, each by its step. -/
theorem conclusionFilesTheRow : Obligations.ConclusionFilesTheRow := by
  intro p t row rest pt judged closed x hrecords ht hjudged hclosed hx
  have hj : judged = judgedByPlan pt row := Bool.eq_iff_iff.mpr (hjudged.trans judgedByPlan_iff.symm)
  have hc : closed = closeWasCommanded pt p row :=
    Bool.eq_iff_iff.mpr (hclosed.trans (hj ▸ closeWasCommanded_iff.symm))
  have hhead : headRecord p = some row := by unfold headRecord; rw [hrecords]; rfl
  have hconclude : t = if row.concluded then p else concludeWith pt row p := by rw [ht]; unfold concludeHead; rw [hhead]
  refine ⟨fun hdone => by rw [hconclude, hdone]; rfl, fun hopen => ?_⟩
  rw [hopen] at hconclude
  replace hconclude : t = concludeWith pt row p := hconclude
  have hentry : EntryIs x p row.tag false p.dose.cut (forcedPoint pt) := by rw [forcedPoint_eq]; exact hx
  obtain ⟨htracker, hport, hmonitor, hdose, hloader, hlog, hcontrol⟩ := entered_gives (rest := rest) hentry
  obtain ⟨ctracker, cport, cdose, cloader, clog, ccontrol, cmonitor⟩ := countRow_gives (judgedByPlan pt row)
    (concludeRecord pt p row).lanes (entered pt p row rest)
  obtain ⟨utracker, uport, umonitor, ulog, udose, ucontrol⟩ := countUnder_gives (concludeRecord pt p row).lanes
    (countRow (judgedByPlan pt row) (concludeRecord pt p row).lanes (entered pt p row rest))
  rw [← concludeWith_eq hrecords, ← hconclude, cfg_congr (cloader.trans hloader)] at udose ucontrol
  rw [← concludeWith_eq hrecords, ← hconclude] at utracker uport umonitor ulog
  have hrun : t.dose =
      { p.dose with
        underCount :=
          if (cfg p).stage = (cfg p).stages then
            if (concludeRecord pt p row).lanes.any (fun e => e.verdict == .under) then min 3 (p.dose.underCount + 1) else 0
          else p.dose.underCount } := by
    rw [udose, cdose, hdose]
  have hlast : t.control =
      (raiseIf (decide ((cfg p).stage = (cfg p).stages ∧ t.dose.underCount = 3)) .underRun
        (raiseIf (closed && decide (64 ≤ p.log.entries.length)) .logOverflow (reported pt p row))).control := by
    rw [ucontrol, hc]
    exact raiseIf_control_congr _ _ (ccontrol.trans hcontrol)
  refine ⟨concludeRecord pt p row, reported pt p row, ?tracker, concludeRecord_eta pt p row, concludeRecord_length pt p row, ?lanes,
    ?sent, uport.trans (cport.trans hport), ?monitor, ?log, hrun, fun hfinal hthree => alarmSet_underRun (by simp [hfinal, hthree]) hlast, hlast,
    ?_, ?_, ?_, ?_, ?_, ?_⟩
  case tracker => rw [hc]; exact utracker.trans (ctracker.trans htracker)
  case lanes =>
    intro i e out he hout
    rw [hj]
    obtain ⟨hplan, haim, hassumed, hvoided, hmarks, hskipped, hheld, hpress, hidle, hverdict⟩ := conclude_lane he hout
    refine ⟨hplan, haim, hassumed, hvoided, hmarks, hskipped, hheld, fun h hp => ?_, hidle, fun h hp c hcum => ?_⟩
    · rw [← forcedPoint_eq]; exact hpress h hp
    · rw [hverdict h hp, doseVerdict_eq, hcum]; rfl
  case sent =>
    unfold reported sealReportOf
    rw [closeWasCommanded_done, ← hc, forcedPoint_eq]; rfl
  case monitor => rw [umonitor, cmonitor, hmonitor, hj]; rfl
  case log =>
    rw [hc, ulog, clog]
    cases hcommand : closeWasCommanded pt p row with
    | false => rw [hcommand] at hlog; exact hlog
    | true => rw [hcommand] at hlog; exact hlog
  all_goals rw [ht]; simp

end Sys2Proof.Machine.Concluding
end

section
/-! Dry cycles ended and cut, the open command, and the entry to FAULT (O49, R119, R126, R129, R130, R164, R165). -/

namespace Sys2Proof.Machine.DryCycles

open Concluding Joining

/-! ## The open command (R119) -/

section

variable (p : Part)

theorem openCommand_sequencer :
    (openCommand p).sequencer =
      { p.sequencer with platen := .opening, closeTimer := none, openTimer := some (cfg p).openTimeout } := rfl

theorem openCommand_dose :
    (openCommand p).dose = { p.dose with lanes := p.dose.lanes.map (fun l => { l with contact := .ended }) } := rfl

theorem openCommand_monitor : (openCommand p).monitor = occur .dwellLength p.dose.samples p.monitor := rfl

theorem openCommand_ended : ∀ l ∈ (openCommand p).dose.lanes, l.contact = .ended := by
  intro l hl
  obtain ⟨x, _, rfl⟩ := List.mem_map.mp hl
  rfl

/-- The open command ends contacts, which no entry shows. -/
theorem laneDose_openCommand (i : Nat) :
    (laneDose (openCommand p) i).acc = (laneDose p i).acc ∧ (laneDose (openCommand p) i).lift = (laneDose p i).lift := by
  unfold laneDose
  rw [openCommand_dose, List.getD_eq_getElem?_getD, List.getD_eq_getElem?_getD, List.getElem?_map]
  cases p.dose.lanes[i]? <;> exact ⟨rfl, rfl⟩

theorem entryIs_openCommand {x : LogEntry} {tag : Tag} {dry aborted forced : Bool} (h : EntryIs x p tag dry aborted forced) :
    EntryIs x (openCommand p) tag dry aborted forced := by
  unfold EntryIs at h ⊢
  simp only [laneDose_openCommand]
  exact h

end

/-! ## A dry cycle ends (R129, R130) -/

/-- A part without a dry cycle. -/
def offCycle (p : Part) : Part := { p with sequencer := { p.sequencer with dry := none } }

section

variable {aborted forced : Bool} {p : Part} {cycle : DryCycle}

theorem endDry_of_none (hdry : p.sequencer.dry = none) : endDry aborted forced p = p := by unfold endDry; rw [hdry]

theorem endDry_of_some (hdry : p.sequencer.dry = some cycle) :
    endDry aborted forced p =
      if decide (p.sequencer.platen ≠ .settle) && !cycle.logged then logCycle cycle.tag true aborted forced (offCycle p)
      else offCycle p := by
  unfold endDry; rw [hdry]; rfl

theorem endDry_settle (hdry : p.sequencer.dry ≠ none) (hsettle : p.sequencer.platen = .settle) :
    endDry aborted forced p = offCycle p := by
  obtain ⟨cycle, hcycle⟩ := Option.ne_none_iff_exists'.mp hdry
  rw [endDry_of_some hcycle, hsettle]; rfl

theorem endDry_sequencer (aborted forced : Bool) (p : Part) :
    (endDry aborted forced p).sequencer = { p.sequencer with dry := none } := by
  cases hdry : p.sequencer.dry with
  | none => rw [endDry_of_none hdry, ← hdry]
  | some cycle => rw [endDry_of_some hdry]; split <;> simp [offCycle]

/-- The end of a dry cycle changes of the tracker the chatter mark only, and of the mode controller the alarms only. -/
theorem endDry_eta (aborted forced : Bool) (p : Part) :
    (endDry aborted forced p).tracker = { p.tracker with chatter := (endDry aborted forced p).tracker.chatter } ∧
      (endDry aborted forced p).control = { p.control with alarms := (endDry aborted forced p).control.alarms } := by
  cases hdry : p.sequencer.dry with
  | none => rw [endDry_of_none hdry]; exact ⟨rfl, rfl⟩
  | some cycle =>
    rw [endDry_of_some hdry]
    split
    · rw [logCycle_eq]
      refine ⟨rfl, ?_⟩
      dsimp only
      unfold raiseIf; split <;> rfl
    · exact ⟨rfl, rfl⟩

/-- The entry of an ended cycle whose close was commanded, unless it was added before. -/
theorem endDry_entry {x : LogEntry} (hdry : p.sequencer.dry = some cycle) (hclosed : p.sequencer.platen ≠ .settle)
    (hx : EntryIs x p cycle.tag true aborted forced) :
    (cycle.logged = true →
        (endDry aborted forced p).log = p.log ∧ (endDry aborted forced p).control.alarms = p.control.alarms ∧
          (endDry aborted forced p).tracker.chatter = p.tracker.chatter) ∧
      (cycle.logged = false →
        LoggedIn (endDry aborted forced p).log x p ∧ (endDry aborted forced p).tracker.chatter = false ∧
          (endDry aborted forced p).control.alarms =
            if p.log.entries.length < 64 then p.control.alarms else (raise .logOverflow p).control.alarms) := by
  rw [endDry_of_some hdry, decide_eq_true hclosed]
  refine ⟨fun hlogged => by rw [hlogged]; exact ⟨rfl, rfl, rfl⟩, fun hlogged => ?_⟩
  rw [hlogged]
  show LoggedIn (logCycle cycle.tag true aborted forced (offCycle p)).log x p ∧
    (logCycle cycle.tag true aborted forced (offCycle p)).tracker.chatter = false ∧
    (logCycle cycle.tag true aborted forced (offCycle p)).control.alarms = _
  refine ⟨loggedIn_congr (q := offCycle p) rfl rfl (logCycle_logged (entryIs_congr rfl rfl rfl hx)), ?_, ?_⟩
  · rw [logCycle_eq]
  · rw [logCycle_eq]
    show (raiseIf (decide (64 ≤ p.log.entries.length)) .logOverflow (offCycle p)).control.alarms = _
    rcases Nat.lt_or_ge p.log.entries.length 64 with hroom | hfull
    · rw [if_pos hroom, decide_eq_false (Nat.not_le.mpr hroom)]; rfl
    · rw [if_neg (Nat.not_lt.mpr hfull), decide_eq_true hfull]; rfl

end

/-! ## A dry cycle is cut (R130) -/

section

variable {p : Part}

theorem cutDry_closing (forced : Bool) (hclosing : p.sequencer.platen = .closing ∨ p.sequencer.platen = .dwell) :
    cutDry forced p = endDry true forced (openCommand p) := by
  unfold cutDry; rcases hclosing with h | h <;> rw [h]

theorem cutDry_opening (forced : Bool) (hopening : p.sequencer.platen = .opening) : cutDry forced p = endDry true forced p := by
  unfold cutDry; rw [hopening]

theorem cutDry_settle (forced : Bool) (hsettle : p.sequencer.platen = .settle) :
    cutDry forced p = backToOpen (endDry true forced p) := by
  unfold cutDry; rw [hsettle]

theorem cutDry_opened (forced : Bool) (hopened : p.sequencer.platen = .opened) : cutDry forced p = offCycle p := by
  unfold cutDry; rw [hopened]; rfl

theorem cutDry_dry (forced : Bool) (p : Part) : (cutDry forced p).sequencer.dry = none := by
  unfold cutDry backToOpen
  split
  all_goals simp only [endDry_sequencer]

theorem cutDry_timers (forced : Bool) (p : Part) :
    (cutDry forced p).sequencer.dryTimer = p.sequencer.dryTimer ∧ (cutDry forced p).sequencer.dryDue = p.sequencer.dryDue := by
  unfold cutDry backToOpen
  split
  all_goals simp only [endDry_sequencer, openCommand_sequencer, and_self]

/-- A cut changes of the tracker the chatter mark only, and of the mode controller the alarms only. -/
theorem cutDry_eta (forced : Bool) (p : Part) :
    (cutDry forced p).tracker = { p.tracker with chatter := (cutDry forced p).tracker.chatter } ∧
      (cutDry forced p).control = { p.control with alarms := (cutDry forced p).control.alarms } := by
  unfold cutDry
  split
  · exact endDry_eta true forced p
  · exact endDry_eta true forced (openCommand p)
  · exact endDry_eta true forced (openCommand p)
  · exact endDry_eta true forced p
  · exact ⟨rfl, rfl⟩

end

/-! ## The entry to FAULT (R126, R164, R165) -/

section

variable {p : Part}

theorem faultSequencer_dry (hdry : p.sequencer.dry ≠ none) : faultSequencer p = cutDry false p := by
  unfold faultSequencer; exact if_pos (Option.isSome_iff_ne_none.mpr hdry)

theorem faultSequencer_closing (hdry : p.sequencer.dry = none) (hclosing : closing p.sequencer.platen = true) :
    faultSequencer p = openCommand { p with dose := { p.dose with cut := true } } := by
  unfold faultSequencer; rw [hdry]
  cases hplaten : p.sequencer.platen <;> rw [hplaten] at hclosing <;> first | rfl | cases hclosing

theorem faultSequencer_other (hdry : p.sequencer.dry = none) (hother : closing p.sequencer.platen = false) :
    faultSequencer p = p := by
  unfold faultSequencer; rw [hdry]
  cases hplaten : p.sequencer.platen <;> rw [hplaten] at hother <;> first | rfl | cases hother

theorem closing_iff (x : Platen) : closing x = true ↔ x = .closing ∨ x = .dwell := by cases x <;> decide

/-- In CLOSING and DWELL the fault is taken as an open command, a dry cycle cut with it. -/
theorem faultSequencer_opens (hclosing : closing p.sequencer.platen = true) :
    (faultSequencer p).sequencer.platen = .opening ∧ (faultSequencer p).sequencer.openTimer = some (cfg p).openTimeout ∧
      (faultSequencer p).sequencer.closeTimer = none ∧ ∀ l ∈ (faultSequencer p).dose.lanes, l.contact = .ended := by
  by_cases hdry : p.sequencer.dry = none
  · rw [faultSequencer_closing hdry hclosing]
    exact ⟨rfl, rfl, rfl, openCommand_ended _⟩
  · rw [faultSequencer_dry hdry, cutDry_closing false ((closing_iff _).mp hclosing), endDry_sequencer, endDry_dose]
    exact ⟨rfl, rfl, rfl, openCommand_ended p⟩

theorem faultSequencer_dryEnded (p : Part) :
    (faultSequencer p).sequencer.dry = none ∧ (faultSequencer p).sequencer.dryTimer = p.sequencer.dryTimer ∧
      (faultSequencer p).sequencer.dryDue = p.sequencer.dryDue := by
  by_cases hdry : p.sequencer.dry = none
  · cases hclosing : closing p.sequencer.platen with
    | true => rw [faultSequencer_closing hdry hclosing]; exact ⟨hdry, rfl, rfl⟩
    | false => rw [faultSequencer_other hdry hclosing]; exact ⟨hdry, rfl, rfl⟩
  · rw [faultSequencer_dry hdry]
    exact ⟨cutDry_dry false p, cutDry_timers false p⟩

theorem faultSequencer_kept (p : Part) :
    (faultSequencer p).tracker.h = p.tracker.h ∧ (faultSequencer p).tracker.records = p.tracker.records ∧
      (p.sequencer.dry = none → (faultSequencer p).log = p.log ∧ (faultSequencer p).tracker = p.tracker) := by
  by_cases hdry : p.sequencer.dry = none
  · cases hclosing : closing p.sequencer.platen with
    | true => rw [faultSequencer_closing hdry hclosing]; exact ⟨rfl, rfl, fun _ => ⟨rfl, rfl⟩⟩
    | false => rw [faultSequencer_other hdry hclosing]; exact ⟨rfl, rfl, fun _ => ⟨rfl, rfl⟩⟩
  · rw [faultSequencer_dry hdry, (cutDry_eta false p).1]
    exact ⟨rfl, rfl, fun h => absurd h hdry⟩

/-- The part that the sequencer finds at the entry to FAULT: record, mode, notice and heaters. -/
def faultEntered (code : Nat) (p : Part) : Part :=
  let q := send (.lineStop .fault) (setMode .fault { p with control := { p.control with fault := firstFault code p.tracker } })
  { q with regulator := heatersOff q.regulator }

theorem takeFault_first (code : Nat) (hmode : p.control.mode ≠ .fault) : takeFault code p = faultSequencer (faultEntered code p) := by
  unfold takeFault; exact if_neg hmode

theorem takeFault_further (code : Nat) (hmode : p.control.mode = .fault) :
    takeFault code p =
      { p with
        control := { p.control with fault := { p.control.fault with further := min 255 (p.control.fault.further + 1) } } } := by
  unfold takeFault; exact if_pos hmode

theorem faultEntered_sequencer (code : Nat) (p : Part) :
    (faultEntered code p).sequencer = { p.sequencer with dryTimer := none, dryDue := false } :=
  send_sequencer _ _

end

/-- Settles O49: record, notice and heaters first, then the sequencer by its case. -/
theorem faultEntryAndFurtherFaults : Obligations.FaultEntryAndFurtherFaults := by
  rintro code p t rfl
  refine ⟨takeFault_further code, fun hmode => ?_⟩
  rw [takeFault_first code hmode]
  have hsequencer := faultEntered_sequencer code p
  have hport : (faultEntered code p).port = (send (.lineStop .fault) p).port := Outcomes.send_port_congr _ rfl rfl rfl
  have htracker : (faultEntered code p).tracker = p.tracker := send_tracker _ _
  have hdose : (faultEntered code p).dose = p.dose := send_dose _ _
  have hlog : (faultEntered code p).log = p.log := send_log _ _
  have hcfg : cfg (faultEntered code p) = cfg p := cfg_congr (send_loader _ _)
  obtain ⟨hdry, htimer, hdue⟩ := faultSequencer_dryEnded (faultEntered code p)
  obtain ⟨hh, hrecords, hkept⟩ := faultSequencer_kept (faultEntered code p)
  have hsame : (faultEntered code p).sequencer.dry = p.sequencer.dry := by rw [hsequencer]
  have hplaten : (faultEntered code p).sequencer.platen = p.sequencer.platen := by rw [hsequencer]
  refine ⟨?mode, ?record, ?lineStop, ?operatorHold, ?port, ?heaters, by rw [htimer, hsequencer], by rw [hdue, hsequencer], hdry,
    fun hclosing => ?opens, fun hnone hother => ?stays, fun hnone => ?enters, by rw [hh, htracker], by rw [hrecords, htracker],
    ?_, ?_, ?_, ?_⟩
  case mode => rw [faultSequencer_mode]; exact send_mode _ _
  case record => rw [faultSequencer_fault]; exact send_fault _ _
  case lineStop => rw [faultSequencer_lineStop]; exact send_lineStop _ _
  case operatorHold => rw [faultSequencer_operatorHold]; exact send_operatorHold _ _
  case port => rw [faultSequencer_port, hport]
  case heaters =>
    rw [faultSequencer_regulator]
    intro x hx
    obtain ⟨y, _, rfl⟩ := List.mem_map.mp hx
    rfl
  case opens => rw [← hcfg]; exact faultSequencer_opens (hplaten ▸ hclosing)
  case stays => rw [faultSequencer_other (hsame.trans hnone) (hplaten ▸ hother)]; exact ⟨hsequencer, hdose⟩
  case enters =>
    obtain ⟨hlogged, htracked⟩ := hkept (hsame.trans hnone)
    exact ⟨hlogged.trans hlog, htracked.trans htracker⟩
  · rw [faultSequencer_sampling]; exact send_sampling _ _
  · rw [faultSequencer_responder]; exact send_responder _ _
  · rw [faultSequencer_loader]; exact send_loader _ _
  · rw [faultSequencer_pins]; exact send_pins _ _

end Sys2Proof.Machine.DryCycles
end

section
/-! RESYNC and CLEAR FAULT (O36, R47, R98, R163, R166), and what REF CHECK, DRY START and DRY STOP begin (O37, R90, R128 to R130,
R162, R191). -/

namespace Sys2Proof.Machine.Flushes

open Outcomes Requests Joining DryCycles Concluding

/-! ## The flush (R47) -/

/-- The part with the notice of a flush in its queue. -/
def noticed (cause : VoidCause) (p : Part) : Part :=
  match p.tracker.h with
  | some head => send (.voidNotice head (head + 47) (cfg p).stage cause) p
  | none => p

/-- The tracker without H, records and candidates. -/
def flushed (k : Tracker) : Tracker :=
  { k with h := none, records := [], candidate := none, candidateCount := 0, skew := none, pendingRealign := none, quietCount := 0 }

theorem noticed_leaves (cause : VoidCause) (p : Part) :
    (noticed cause p).regulator = p.regulator ∧ (noticed cause p).sequencer = p.sequencer ∧
      (noticed cause p).dose = p.dose ∧ (noticed cause p).control.mode = p.control.mode ∧ (noticed cause p).pins = p.pins ∧
      (noticed cause p).loader = p.loader := by
  unfold noticed; split <;> simp

theorem noticed_blind {f : Part → Part} (hf : Blind f) (cause : VoidCause) (p : Part) :
    noticed cause (f p) = f (noticed cause p) := by
  have hcfg : cfg (f p) = cfg p := cfg_congr (hf.keepsLoader p)
  unfold noticed
  rw [hf.keepsH]
  cases p.tracker.h with
  | none => rfl
  | some head => dsimp only; rw [hcfg, send_blind hf]

theorem flushToSeek_eq (cause : VoidCause) (p : Part) :
    flushToSeek cause p =
      { noticed cause p with
        tracker := flushed (noticed cause p).tracker, control := { (noticed cause p).control with mode := .seek },
        regulator := regulatorOnMode p.control.mode .seek p.regulator,
        sequencer := { p.sequencer with dryTimer := none, dryDue := false },
        dose := { p.dose with underCount := 0 } } := by
  obtain ⟨hregulator, hsequencer, hdose, hmode, -, -⟩ := noticed_leaves cause p
  rw [← hregulator, ← hsequencer, ← hdose, ← hmode]
  rfl

theorem regulatorOnMode_to_seek {m : Mode} (hmode : m = .run ∨ m = .hold) (g : Regulator) :
    regulatorOnMode m .seek g = { g with idle := false } := by
  rcases hmode with rfl | rfl <;> simp [regulatorOnMode, idleMode]

theorem regulatorOnMode_fault_seek (g : Regulator) : regulatorOnMode .fault .seek g = { g with idle := false, listen := 2 } := by
  simp [regulatorOnMode, idleMode]

/-- The fault record cleared and the close-timeout count set back. -/
def faultForgotten (p : Part) : Part :=
  { p with
    control := { p.control with fault := FaultRecord.cleared }, sequencer := { p.sequencer with closeTimeouts := 0 } }

theorem blind_faultForgotten : Blind faultForgotten := by constructor <;> intros <;> rfl

/-- Settles O36: the notice first, then the flush and the entry to SEEK; clearing the fault record commutes with the notice. -/
theorem resyncAndClearFaultFlush : Obligations.ResyncAndClearFaultFlush := by
  intro s h r q cause hr hq k hk
  have hnoticed : q = noticed cause r := by rw [hq]; unfold noticed; cases r.tracker.h <;> rfl
  obtain ⟨-, hsequencer, -, -, hpins, hloader⟩ := noticed_leaves cause r
  subst hk
  refine ⟨fun hmode hopened hcause => ?_, fun hmode hsensor hconverter hcause => ?_⟩
  · subst hcause
    have haccepted : resyncAccepted r = true := by
      unfold resyncAccepted; rw [hopened]; rcases hmode with h | h <;> rw [h] <;> rfl
    have hflush : flushToSeek .resync r = _ := flushToSeek_eq .resync r
    rw [regulatorOnMode_to_seek hmode, ← hnoticed] at hflush
    refine takes_of_asked rfl hr ((request_alone haccepted).trans (congrArg _ hflush)) ?_ ?_ ?_
    · rw [send_sequencer]
    · rw [send_pins]; exact congrArg Pins.openSensor (hnoticed ▸ hpins)
    · rw [send_loader]; exact congrArg Loader.phase (hnoticed ▸ hloader)
  · subst hcause
    have haccepted : clearFaultAccepted r = true := by
      unfold clearFaultAccepted; rw [hmode, hsensor, hconverter]; rfl
    have hflush : flushToSeek .faultClear (faultForgotten r) = _ := flushToSeek_eq .faultClear (faultForgotten r)
    rw [noticed_blind blind_faultForgotten, show (faultForgotten r).control.mode = .fault from hmode, regulatorOnMode_fault_seek,
      ← hnoticed] at hflush
    refine takes_of_asked rfl hr ((request_alone haccepted).trans (congrArg _ hflush)) ?_ ?_ ?_
    · rw [send_sequencer]
    · rw [send_pins]; exact congrArg Pins.openSensor (hnoticed ▸ hpins)
    · rw [send_loader]; exact congrArg Loader.phase (hnoticed ▸ hloader)

/-! ## A dry cycle begun (R128, R129, R162) -/

section

variable {c : Instr} {h : Header} {handle : Part → Part} {s : State} {r q : Part}

/-- A request that leaves the platen in another state than OPENING. -/
theorem takes_of_asked_away (he : exec c s = run (arrival h (addressed handle)) s) (hr : Asks h s r) (hhandle : handle r = q)
    (hplaten : q.sequencer.platen ≠ .opening) : Takes c s (endOf q) :=
  takes_of_hears he hr.1 ((addressed_of_asks hr).trans hhandle) fun harriving => hplaten harriving.1

end

/-- DRY with its first cycle in SETTLE. -/
def dryBegun (p : Part) : Part :=
  { p with
    control := { p.control with mode := .dry }, regulator := { p.regulator with idle := false },
    sequencer :=
      { p.sequencer with
        platen := .settle, settleTimer := some (cfg p).settle, dryTimer := some (cfg p).dryPeriod, dryDue := false,
        dry := some { tag := p.tracker.h.getD 0, logged := false } } }

section

variable {p : Part}

theorem regulatorOnMode_hold_dry (g : Regulator) : regulatorOnMode .hold .dry g = { g with idle := false } := by
  simp [regulatorOnMode, idleMode]

theorem setMode_dry (hmode : p.control.mode = .hold) :
    setMode .dry p =
      { p with control := { p.control with mode := .dry }, regulator := { p.regulator with idle := false } } := by
  unfold setMode; rw [hmode, regulatorOnMode_hold_dry]; rfl

theorem beginDry_setMode (hmode : p.control.mode = .hold) :
    beginDry (setMode .dry p) = if (cfg p).settle = 0 then settleDry (dryBegun p) else dryBegun p := by
  rw [setMode_dry hmode]; rfl

/-- The settle end of a dry cycle with a fit lane closes on every fit lane for Nconf samples. -/
theorem settleDry_closes (hfit : ∃ i, i < (cfg p).lanes ∧ laneUnfit p i = false) :
    settleDry p = closeCommand (cfg p).nconf (dryPresses p) (fun _ => 0) p := by
  obtain ⟨i, hi, hfit⟩ := hfit
  unfold settleDry
  refine if_pos (List.any_eq_true.mpr ⟨i, List.mem_range.mpr hi, ?_⟩)
  simp [dryPresses, hi, hfit]

/-- With no fit lane the dry cycle ends. -/
theorem settleDry_ends (hunfit : ∀ i, i < (cfg p).lanes → laneUnfit p i = true) :
    settleDry p = { p with sequencer := { p.sequencer with platen := .opened, settleTimer := none, dry := none } } := by
  unfold settleDry
  refine if_neg fun hany => ?_
  obtain ⟨i, hi, hpress⟩ := List.any_eq_true.mp hany
  simp [dryPresses, hunfit i (List.mem_range.mp hi)] at hpress

end

/-! ## A dry abort (R130) -/

/-- What a dry abort cuts, before the mode returns to HOLD. -/
def cutIfDry (forced : Bool) (p : Part) : Part := if p.sequencer.dry.isSome then cutDry forced p else p

section

variable {p : Part}

theorem cutIfDry_some (forced : Bool) (hdry : p.sequencer.dry ≠ none) : cutIfDry forced p = cutDry forced p :=
  if_pos (Option.isSome_iff_ne_none.mpr hdry)

theorem cutIfDry_none (forced : Bool) (hdry : p.sequencer.dry = none) : cutIfDry forced p = p := by
  unfold cutIfDry; rw [hdry]; rfl

theorem cutIfDry_leaves (forced : Bool) (p : Part) :
    (cutIfDry forced p).port = p.port ∧ (cutIfDry forced p).sampling = p.sampling ∧
      (cutIfDry forced p).regulator = p.regulator ∧ (cutIfDry forced p).responder = p.responder ∧
      (cutIfDry forced p).loader = p.loader ∧ (cutIfDry forced p).pins = p.pins ∧
      (cutIfDry forced p).tracker = { p.tracker with chatter := (cutIfDry forced p).tracker.chatter } ∧
      (cutIfDry forced p).control = { p.control with alarms := (cutIfDry forced p).control.alarms } := by
  by_cases hdry : p.sequencer.dry = none
  · rw [cutIfDry_none forced hdry]; exact ⟨rfl, rfl, rfl, rfl, rfl, rfl, rfl, rfl⟩
  · rw [cutIfDry_some forced hdry]
    obtain ⟨htracker, hcontrol⟩ := cutDry_eta forced p
    exact ⟨cutDry_port _ _, cutDry_sampling _ _, cutDry_regulator _ _, cutDry_responder _ _, cutDry_loader _ _, cutDry_pins _ _,
      htracker, hcontrol⟩

theorem regulatorOnMode_dry_hold (g : Regulator) : regulatorOnMode .dry .hold g = { g with idleClock := 0 } := by
  simp [regulatorOnMode, idleMode]

theorem abortDry_eq (forced : Bool) (hmode : p.control.mode = .dry) :
    abortDry forced p =
      { cutIfDry forced p with
        control := { (cutIfDry forced p).control with mode := .hold }, regulator := { p.regulator with idleClock := 0 },
        sequencer := { (cutIfDry forced p).sequencer with dryTimer := none, dryDue := false } } := by
  obtain ⟨-, -, hregulator, -, -, -, -, hcontrol⟩ := cutIfDry_leaves forced p
  have hdry : (cutIfDry forced p).control.mode = .dry := by rw [hcontrol]; exact hmode
  show setMode .hold (cutIfDry forced p) = _
  unfold setMode
  rw [hdry, hregulator, regulatorOnMode_dry_hold]; rfl

/-- In SETTLE no close was commanded: the cycle ends without an entry. -/
theorem cutIfDry_settle (forced : Bool) (hdry : p.sequencer.dry ≠ none) (hsettle : p.sequencer.platen = .settle) :
    cutIfDry forced p =
      { p with sequencer := { p.sequencer with platen := .opened, settleTimer := none, dry := none } } := by
  rw [cutIfDry_some forced hdry, cutDry_settle forced hsettle, endDry_settle hdry hsettle]; rfl

/-- In CLOSING and DWELL the cycle is cut behind the open command. -/
theorem cutIfDry_closing (forced : Bool) (hdry : p.sequencer.dry ≠ none)
    (hclosing : p.sequencer.platen = .closing ∨ p.sequencer.platen = .dwell) :
    (cutIfDry forced p).sequencer =
        { p.sequencer with
          platen := .opening, closeTimer := none, openTimer := some (cfg p).openTimeout, dry := none } ∧
      (cutIfDry forced p).dose = { p.dose with lanes := p.dose.lanes.map (fun l => { l with contact := .ended }) } ∧
      (cutIfDry forced p).monitor = occur .dwellLength p.dose.samples p.monitor := by
  rw [cutIfDry_some forced hdry, cutDry_closing forced hclosing, endDry_sequencer, endDry_dose, endDry_monitor]
  exact ⟨rfl, rfl, rfl⟩

theorem cutIfDry_opening (forced : Bool) (hdry : p.sequencer.dry ≠ none) (hopening : p.sequencer.platen = .opening) :
    (cutIfDry forced p).sequencer = { p.sequencer with dry := none } ∧ (cutIfDry forced p).dose = p.dose ∧
      (cutIfDry forced p).monitor = p.monitor := by
  rw [cutIfDry_some forced hdry, cutDry_opening forced hopening, endDry_sequencer]
  exact ⟨rfl, endDry_dose _ _ _, endDry_monitor _ _ _⟩

/-- The entry of a cut cycle whose close was commanded, unless it was added before. -/
theorem cutIfDry_entry {forced : Bool} {cycle : DryCycle} {x : LogEntry} (hdry : p.sequencer.dry = some cycle)
    (hclosed : p.sequencer.platen = .closing ∨ p.sequencer.platen = .dwell ∨ p.sequencer.platen = .opening)
    (hx : EntryIs x p cycle.tag true true forced) :
    (cycle.logged = true →
        (cutIfDry forced p).log = p.log ∧ (cutIfDry forced p).control.alarms = p.control.alarms ∧
          (cutIfDry forced p).tracker.chatter = p.tracker.chatter) ∧
      (cycle.logged = false →
        LoggedIn (cutIfDry forced p).log x p ∧ (cutIfDry forced p).tracker.chatter = false ∧
          (cutIfDry forced p).control.alarms =
            if p.log.entries.length < 64 then p.control.alarms else (raise .logOverflow p).control.alarms) := by
  rw [cutIfDry_some forced (by simp [hdry])]
  rcases or_assoc.mpr hclosed with hclosing | hopening
  · rw [cutDry_closing forced hclosing]
    exact endDry_entry (p := openCommand p) hdry (by rw [openCommand_sequencer]; exact Platen.noConfusion)
      (entryIs_openCommand p hx)
  · rw [cutDry_opening forced hopening]
    exact endDry_entry hdry (by rw [hopening]; exact Platen.noConfusion) hx

end

/-- Settles O37: each request from its own lemmas, the abort from what is cut. -/
theorem checksAndDryCyclesAreAsked : Obligations.ChecksAndDryCyclesAreAsked := by
  intro s h r hr
  refine ⟨fun hmode hopened hcheck => ?_, fun hmode hstop hopened y hy => ?_, fun hmode hsettle hdry => ?_, fun hmode => ?_,
    fun p t forced hmode ht => ?_⟩
  · have haccepted : refCheckAccepted r = true := by
      unfold refCheckAccepted; rw [hopened, hcheck]; rcases hmode with h | h <;> rw [h] <;> rfl
    exact takes_of_asked rfl hr (request_alone haccepted) rfl rfl rfl
  · have haccepted : dryStartAccepted r = true := by unfold dryStartAccepted; rw [hmode, hstop, hopened]; rfl
    replace hy : y = dryBegun r := hy
    subst hy
    have hact (z : Part) (hbegin : beginDry (setMode .dry r) = z) (hplaten : z.sequencer.platen ≠ .opening) :
        Takes (.dryStart h []) s (endOf (send (.serviceReply h.station 18 .done []) z)) :=
      takes_of_asked_away rfl hr ((request_alone haccepted).trans (congrArg _ hbegin)) (by rw [send_sequencer]; exact hplaten)
    refine ⟨fun hdelay => ?_, fun hdelay hfit => ?_, fun hdelay hunfit => ?_⟩
    · exact hact _ ((beginDry_setMode hmode).trans (if_neg hdelay)) Platen.noConfusion
    · exact hact _ ((beginDry_setMode hmode).trans ((if_pos hdelay).trans (settleDry_closes (p := dryBegun r) hfit)))
        Platen.noConfusion
    · exact hact _ ((beginDry_setMode hmode).trans ((if_pos hdelay).trans (settleDry_ends (p := dryBegun r) hunfit)))
        Platen.noConfusion
  · have haccepted : dryStopAccepted r = true := by unfold dryStopAccepted; rw [hmode]; rfl
    have habort := abortDry_eq false hmode
    rw [cutIfDry_settle false hdry hsettle] at habort
    exact takes_of_asked_away rfl hr ((request_alone haccepted).trans (congrArg _ habort))
      (by rw [send_sequencer]; exact Platen.noConfusion)
  · have haccepted : dryStopAccepted r = true := by unfold dryStopAccepted; rw [hmode]; rfl
    exact takes_of_hears_finish rfl hr.1 ((addressed_of_asks hr).trans (request_alone haccepted))
  · obtain ⟨hport, hsampling, -, hresponder, hloader, hpins, htracker, hcontrol⟩ := cutIfDry_leaves forced p
    rw [ht, abortDry_eq forced hmode]
    refine ⟨by rw [hcontrol], rfl, hport, hsampling, htracker, hresponder, hloader, hpins, fun hdry => ?none, fun hdry hsettle => ?settle,
      fun hdry hclosing => ?closing, fun hdry hopening => ?opening, fun cycle x hdry hclosed hx => ?entry⟩
    case none => rw [cutIfDry_none forced hdry]; exact ⟨rfl, rfl, rfl, rfl, rfl, rfl⟩
    case settle => rw [cutIfDry_settle forced hdry hsettle]; exact ⟨rfl, rfl, rfl, rfl, rfl, rfl⟩
    case closing =>
      obtain ⟨hsequencer, hdose, hmonitor⟩ := cutIfDry_closing forced hdry hclosing
      exact ⟨by dsimp only; rw [hsequencer], hdose, hmonitor⟩
    case opening =>
      obtain ⟨hsequencer, hdose, hmonitor⟩ := cutIfDry_opening forced hdry hopening
      exact ⟨by dsimp only; rw [hsequencer], hdose, hmonitor⟩
    case entry => exact cutIfDry_entry hdry hclosed hx

end Sys2Proof.Machine.Flushes
end

section
/-! RESTART (O38, R20, R22, R192): its reply joins a line that is not quiet, as the most patient frame of the queue. -/

namespace Sys2Proof.Machine.Restarts

open Outcomes Requests Sending TransmitQueue

/-! ## While a frame is heard the line is not quiet (R1) -/

section

variable {p : Part}

theorem send_busy (b : FrameBody) (hbusy : p.port.quiet = false) : (send b p).port.quiet = false := by
  have hjoined : (joinQueue (buildFrame b p) p).port.quiet = false := (joinQueue_quiet _).trans hbusy
  unfold send join
  rw [tryBegin_of_busy hjoined]; exact hjoined

theorem applyRealignment_busy (x : Realignment) (hbusy : p.port.quiet = false) : (applyRealignment x p).port.quiet = false := by
  unfold applyRealignment
  split
  · exact hbusy
  · exact send_busy (p := moveQueue _ x.d p) _ (by simpa using hbusy)

theorem decideRealignment_busy (x : Realignment) (hbusy : p.port.quiet = false) : (decideRealignment x p).port.quiet = false := by
  unfold decideRealignment
  dsimp only
  split
  · exact applyRealignment_busy x hbusy
  · exact applyRealignment_busy x hbusy
  · exact hbusy

theorem takeSkew_busy (head : Tag) (d : Int) (hbusy : p.port.quiet = false) : (takeSkew head d p).port.quiet = false := by
  unfold takeSkew
  dsimp only
  split
  · exact hbusy
  · split
    · exact decideRealignment_busy _ hbusy
    · exact hbusy

theorem takeEvidence_busy (h : Header) (hbusy : p.port.quiet = false) : (takeEvidence h p).port.quiet = false := by
  unfold takeEvidence
  dsimp only
  split
  · exact hbusy
  · split
    · exact takeSkew_busy _ _ hbusy
    · split
      · unfold takeCandidate enterAligned
        dsimp only
        split
        · split <;> simpa using hbusy
        · exact hbusy
      · exact hbusy

theorem hears_busy {h : Header} {s : State} {r : Part} (hr : Hears h s r) : r.port.quiet = false := by
  rw [hr.2]; exact takeEvidence_busy h rfl

end

/-! ## The reply of a RESTART joins (R20, R22) -/

section

variable {p : Part} {f : TxFrame} {station : BitVec 5} {code : Byte} {status : ReplyStatus} {data : List Byte}

theorem priority_le (b : FrameBody) : priority b ≤ 6 := by cases b <;> simp [priority]

theorem reply_replaces_nothing (hbody : f.body = .serviceReply station code status data) (x : TxFrame) : replaces f x = false := by
  unfold replaces; rw [hbody]

theorem join_reply_of_room (hbody : f.body = .serviceReply station code status data) (hroom : p.port.queue.length < 16) :
    join f p = tryBegin (withQueue (place f p.port.queue) p) := by
  unfold join; rw [joinQueue_of_room (fun x _ => reply_replaces_nothing hbody x) hroom]

/-- At a full queue a reply is the frame given up: no queued frame is less urgent. -/
theorem join_reply_of_full (hbody : f.body = .serviceReply station code status data) (hfull : 16 ≤ p.port.queue.length)
    (hbusy : p.port.quiet = false) : join f p = raise .txOverflow (count .txDropped p) := by
  have hworst : ¬priority f.body < worstPriority p.port.queue := by
    have hleast : priority f.body = 6 := by rw [hbody]; rfl
    rw [hleast]
    exact Nat.not_lt.mpr (worst_le fun x _ _ => priority_le x.body)
  unfold join
  rw [joinQueue_of_full (fun x _ => reply_replaces_nothing hbody x) hfull, if_neg hworst]
  exact tryBegin_of_busy hbusy

end

/-- A RESTART that waits for its reply. -/
def restartAsked (p : Part) : Part := { p with responder := { p.responder with pendingRestart := true } }

section

variable {h : Header} {r : Part}

theorem answerRestart_first (hnone : NoRestart r) :
    answerRestart h r = join { buildFrame (.serviceReply h.station 20 .done []) r with restartReply := true } (restartAsked r) := by
  unfold answerRestart; rw [show r.responder.pendingRestart = false from hnone]; rfl

theorem restartAsked_of_pending (hpending : r.responder.pendingRestart = true) : restartAsked r = r := by
  unfold restartAsked; rw [← hpending]

theorem answerRestart_again (hpending : r.responder.pendingRestart = true) :
    answerRestart h r = join (buildFrame (.serviceReply h.station 20 .done []) r) r := by
  have hasked := restartAsked_of_pending hpending
  unfold restartAsked at hasked
  unfold answerRestart
  rw [hpending, hasked]; rfl

end

/-- Settles O38: the first reply carries the mark that the end of the event looks for; a second one does not. -/
theorem restartWaitsOrIsPerformed : Obligations.RestartWaitsOrIsPerformed := by
  rintro s h r f g hr hmode rfl rfl
  have hbusy := hears_busy hr.1
  have hact {q : Part} (hq : answerRestart h r = q) : requestRestart h [] r = q :=
    (request_alone (outsideStart_of_mode hmode)).trans hq
  refine ⟨fun hnone hroom => ?_, fun hnone hfull hothers hreset => ?_, fun hpending => ⟨rfl, fun hroom => ?_, fun hfull => ?_⟩⟩
  · have hjoined := hact ((answerRestart_first hnone).trans (join_reply_of_room rfl hroom))
    have hkept : tryBegin (withQueue (place { buildFrame (.serviceReply h.station 20 .done []) r with restartReply := true }
        r.port.queue) (restartAsked r)) = _ := tryBegin_of_busy hbusy
    have htakes := takes_of_asked (c := .restart h []) rfl hr (hjoined.trans hkept) rfl rfl rfl
    rw [endOf_of_waiting (.inr ⟨_, (mem_place _ _ _).mpr (.inl rfl), rfl⟩), ← hkept] at htakes
    exact htakes
  · have hjoined := hact ((answerRestart_first hnone).trans (join_reply_of_full rfl hfull hbusy))
    have htakes := takes_of_asked (c := .restart h []) rfl hr hjoined rfl rfl rfl
    have hperformed := takes_of_left htakes rfl hothers hreset
    have hcontrols : (count .txDropped r).monitor.controls = r.monitor.controls := (sameControls_count .txDropped r).controls
    rw [tryBegin_of_busy hbusy, ← hcontrols]
    exact hperformed
  · exact takes_of_asked rfl hr (hact ((answerRestart_again hpending).trans (join_reply_of_room rfl hroom))) (by simp) (by simp)
      (by simp)
  · exact takes_of_asked rfl hr (hact ((answerRestart_again hpending).trans (join_reply_of_full rfl hfull hbusy))) rfl rfl rfl

end Sys2Proof.Machine.Restarts
end

section
/-! The data of the replies read byte by byte (O32, O33): flag bytes, code bytes, counters, log entries and lanes. -/

namespace Sys2Proof.Machine.ReplyBytes

open Bytes

/-! ## Flag bytes -/

theorem bits_of_flags : ∀ a b c d e f g h : Bool,
    (List.range 8).map (fun i => (byteOf (bitOf h * 128 + bitOf g * 64 + bitOf f * 32 + bitOf e * 16 + bitOf d * 8 + bitOf c * 4 +
      bitOf b * 2 + bitOf a)).getLsbD i) = [a, b, c, d, e, f, g, h] := by decide

theorem add_bit (b : Bool) (acc k : Nat) : (if b then acc + k else acc) = acc + bitOf b * k := by
  cases b <;> simp [bitOf]

/-- Bit c of a byte made of eight bits. -/
theorem byteOfBits_getLsbD (f : Nat → Bool) {c : Nat} (hc : c < 8) : (byteOfBits f).getLsbD c = f c := by
  have hsum : byteOfBits f = byteOf (bitOf (f 7) * 128 + bitOf (f 6) * 64 + bitOf (f 5) * 32 + bitOf (f 4) * 16 +
      bitOf (f 3) * 8 + bitOf (f 2) * 4 + bitOf (f 1) * 2 + bitOf (f 0)) := by
    unfold byteOfBits
    simp only [add_bit]
    refine congrArg byteOf ?_
    show 0 + _ * 1 + _ * 2 + _ * 4 + _ * 8 + _ * 16 + _ * 32 + _ * 64 + _ * 128 = _
    ring
  have hbits := bits_of_flags (f 0) (f 1) (f 2) (f 3) (f 4) (f 5) (f 6) (f 7)
  rw [← hsum] at hbits
  have hmap : (List.range 8).map (fun i => (byteOfBits f).getLsbD i) = (List.range 8).map f := hbits
  exact List.map_inj_left.mp hmap c (List.mem_range.mpr hc)

/-! ## Code bytes -/

theorem toNat_byteOf_mod (n : Nat) : (byteOf n).toNat = n % 256 := BitVec.toNat_ofNat n 8

theorem verdict_of_code (v : Verdict) :
    ([.pending, .sealed, .under, .over, .doubt, .skipped] : List Verdict)[verdictCode v]? = some v := by cases v <;> rfl

theorem reason_of_code (r : Reason) :
    ([.none, .station, .noHeat, .upstream, .overdose, .noCard, .badForm, .crush, .unknown, .missed, .notNeeded] :
      List Reason)[reasonCode r]? = some r := by cases r <;> rfl

theorem verdictByte_code (v : Verdict) (r : Reason) : VerdictByte (byteOf (verdictCode v * 16 + reasonCode r)) v r := by
  have hv := verdictCode_le v
  have hr := reasonCode_le r
  unfold VerdictByte
  rw [toNat_byteOf (by omega), show (verdictCode v * 16 + reasonCode r) / 16 = verdictCode v by omega,
    show (verdictCode v * 16 + reasonCode r) % 16 = reasonCode r by omega]
  exact ⟨verdict_of_code v, reason_of_code r⟩

/-! ## STATUS (R13, R50) -/

section

variable (p : Part)

theorem mode_byte : ([.start, .seek, .run, .hold, .dry, .fault] : List Mode)[byteAt (statusBytes p) 0]? = some p.control.mode := by
  show ([.start, .seek, .run, .hold, .dry, .fault] : List Mode)[(byteOf (modeCode p.control.mode)).toNat]? = _
  cases p.control.mode <;> rfl

theorem platen_byte :
    ([.opened, .settle, .closing, .dwell, .opening] : List Platen)[byteAt (statusBytes p) 2]? = some p.sequencer.platen := by
  show ([.opened, .settle, .closing, .dwell, .opening] : List Platen)[(byteOf (platenCode p.sequencer.platen)).toNat]? = _
  cases p.sequencer.platen <;> rfl

theorem status_flags :
    (List.range 8).map (fun i => ((statusBytes p).getD 1 0).getLsbD i) =
      [p.regulator.idle, p.control.operatorHold, p.control.lineStop, p.loader.phase == .configBad, p.sampling.converterFault,
        p.sampling.drift, p.control.fault.h.isSome, p.tracker.h.isSome] :=
  bits_of_flags _ _ _ _ _ _ _ _

theorem fault_count : fieldAt (statusBytes p) 10 * 65536 + fieldAt (statusBytes p) 12 = p.control.fault.count.toNat := by
  have hhigh : fieldAt (statusBytes p) 10 = p.control.fault.count.toNat / 65536 % 65536 := field_of_bytes _
  have hlow : fieldAt (statusBytes p) 12 = p.control.fault.count.toNat % 65536 := field_of_bytes _
  have hlt := p.control.fault.count.isLt
  rw [hhigh, hlow]
  omega

theorem candidate_byte :
    byteAt (statusBytes p) 15 =
      if p.control.mode = .seek ∧ p.tracker.candidate ≠ none then p.tracker.candidateCount % 256 else 0 := by
  have hbyte : byteAt (statusBytes p) 15 = shownCandidate p % 256 := toNat_byteOf_mod _
  rw [hbyte]
  unfold shownCandidate
  simp only [Option.isSome_iff_ne_none]
  split <;> rfl

theorem skew_absent (hnone : p.tracker.skew = none) : byteAt (statusBytes p) 16 = 0 ∧ fieldAt (statusBytes p) 17 = 0 := by
  have hcount : byteAt (statusBytes p) 16 = shownSkewCount p % 256 := toNat_byteOf_mod _
  have hskew : fieldAt (statusBytes p) 17 = (shownSkew p).toNat % 65536 := field_of_bytes _
  rw [hcount, hskew]
  unfold shownSkewCount shownSkew
  rw [hnone]; exact ⟨rfl, rfl⟩

theorem skew_present {x : Skew} (hsome : p.tracker.skew = some x) :
    byteAt (statusBytes p) 16 = x.count % 256 ∧ tagAt (statusBytes p) 17 = BitVec.ofInt 16 x.d := by
  have hcount : byteAt (statusBytes p) 16 = shownSkewCount p % 256 := toNat_byteOf_mod _
  have hskew : tagAt (statusBytes p) 17 = shownSkew p := word_of_bytes _
  rw [hcount, hskew]
  unfold shownSkewCount shownSkew
  rw [hsome]; exact ⟨rfl, rfl⟩

theorem statusLayout_statusBytes : StatusLayout (statusBytes p) p :=
  ⟨rfl, mode_byte p, status_flags p, platen_byte p, field_of_lt p.control.alarms.isLt, word_of_bytes _, toNat_byteOf_mod _,
    word_of_bytes _, fault_count p, toNat_byteOf_mod _, candidate_byte p, skew_absent p, fun _ => skew_present p,
    fun _ hc => ⟨byteOfBits_getLsbD _ hc, byteOfBits_getLsbD _ hc⟩, field_of_bytes _⟩

end

/-! ## READ COUNTERS (R12, R172) -/

theorem length_bytes40 (k : Counter) : (bytes40 k.value).length = 5 := rfl

theorem counter_of_bytes (n : Nat) :
    (BitVec.ofNat 8 (n / 4294967296)).toNat * 4294967296 +
        ((BitVec.ofNat 8 (n / 65536 / 256)).toNat * 256 + (BitVec.ofNat 8 (n / 65536)).toNat) * 65536 +
        ((BitVec.ofNat 8 (n / 256)).toNat * 256 + (BitVec.ofNat 8 n).toNat) = n % 1099511627776 := by
  rw [field_of_bytes, field_of_bytes, BitVec.toNat_ofNat]
  omega

/-- The counters of a part of a snapshot, five bytes each, with the wrap flags behind them. -/
theorem counterAt_counterBytes {cs : List Counter} {c : Nat} {k : Counter} (hk : cs[c]? = some k) (w : Byte) :
    CounterAt (counterBytes cs ++ [w]) (5 * c) k := by
  have hin : c < cs.length := (List.getElem?_eq_some_iff.mp hk).1
  have hbyte {j : Nat} (hj : j < 5) : (counterBytes cs ++ [w]).getD (5 * c + j) 0 = (bytes40 k.value).getD j 0 := by
    unfold counterBytes
    rw [List.getD_append _ _ _ _ (by rw [length_flatMap_const length_bytes40]; omega),
      getD_flatMap length_bytes40 hk hj]
  unfold CounterAt fieldAt byteAt
  rw [hbyte (j := 1) (by decide), hbyte (j := 3) (by decide), Nat.add_assoc (5 * c) 1 1, Nat.add_assoc (5 * c) 3 1,
    hbyte (j := 1 + 1) (by decide), hbyte (j := 3 + 1) (by decide), ← Nat.add_zero (5 * c), hbyte (j := 0) (by decide)]
  exact counter_of_bytes k.value

theorem length_counterBytes (cs : List Counter) : (counterBytes cs).length = 5 * cs.length :=
  length_flatMap_const length_bytes40 cs

theorem wrapByte_behind (cs ds : List Counter) {n : Nat} (hn : (counterBytes ds).length = n) :
    WrapByte ((counterBytes ds ++ [wrapByte cs]).getD n 0) cs := by
  rw [List.getD_append_right _ _ _ _ (by omega), hn, Nat.sub_self]
  exact fun c hc => byteOfBits_getLsbD _ hc

theorem countersLayoutA_partA {cs : List Counter} (hcs : cs.length = 7) : CountersLayoutA (partA cs) cs := by
  have hlength : (counterBytes (cs.take 4)).length = 20 := by rw [length_counterBytes, List.length_take, hcs]; rfl
  refine ⟨by unfold partA; rw [List.length_append, hlength]; rfl, fun c k hc hk => ?_, wrapByte_behind cs _ hlength⟩
  exact counterAt_counterBytes (by rw [List.getElem?_take_of_lt hc, hk]) _

theorem countersLayoutB_partB {cs : List Counter} (hcs : cs.length = 7) : CountersLayoutB (partB cs) cs := by
  have hlength : (counterBytes (cs.drop 4)).length = 15 := by rw [length_counterBytes, List.length_drop, hcs]
  refine ⟨by unfold partB; rw [List.length_append, hlength]; rfl, fun c k hlow _ hk => ?_, wrapByte_behind cs _ hlength⟩
  exact counterAt_counterBytes (by rw [List.getElem?_drop, Nat.add_sub_cancel' hlow, hk]) _

/-! ## READ LOG (R15) -/

section

variable (n : Nat) (e : LogEntry)

theorem length_entryLane (c : Nat) : (entryLane n e c).length = 3 := rfl

theorem entry_flags : ∀ drift chatter forced aborted dry : Bool,
    (List.range 8).map (fun i => (byteOf (bitOf dry * 16 + bitOf aborted * 8 + bitOf forced * 4 + bitOf chatter * 2 +
      bitOf drift)).getLsbD i) = [drift, chatter, forced, aborted, dry, false, false, false] := by decide

/-- Three bytes that are those of a lane hold it. -/
theorem logLaneAt_of_bytes {d : List Byte} {i c : Nat} (hbytes : ∀ j < 3, d.getD (i + j) 0 = (entryLane n e c).getD j 0) :
    LogLaneAt d i n c e := by
  have hhigh : d.getD i 0 = (entryLane n e c).getD 0 0 := hbytes 0 (by decide)
  unfold LogLaneAt fieldAt byteAt
  rw [hhigh, hbytes 1 (by decide), hbytes 2 (by decide)]
  refine ⟨fun hout => ?_, fun l hin hl => ?_⟩
  · unfold entryLane; rw [if_neg (Nat.not_lt.mpr hout)]; exact ⟨rfl, rfl⟩
  · unfold entryLane
    rw [if_pos hin, show e.lanes.getD c { dose := 0, lift := 255 } = l by rw [List.getD_eq_getElem?_getD, hl]; rfl]
    exact ⟨field_of_bytes _, toNat_byteOf_mod _⟩

theorem logLayoutA_logBytesA (entries overflow : Nat) :
    LogLayoutA (logBytesA n entries overflow e) n entries overflow e := by
  refine ⟨rfl, toNat_byteOf_mod _, word_of_bytes _, field_of_bytes _, toNat_byteOf_mod _, field_of_bytes _, entry_flags _ _ _ _ _,
    fun c hc => ?_, field_of_bytes _⟩
  refine logLaneAt_of_bytes n e fun j hj => ?_
  rw [show 9 + 3 * c + j = 9 + (3 * c + j) by omega, ← getD_flatMap (length_entryLane n e) (List.getElem?_range hc) hj]
  unfold logBytesA
  rw [List.append_assoc, List.getD_append_right _ _ _ _ (Nat.le_add_right 9 _)]
  show List.getD _ (9 + (3 * c + j) - 9) 0 = _
  rw [Nat.add_sub_cancel_left, List.getD_append _ _ _ _ (by rw [length_flatMap_const (length_entryLane n e)]; simp; omega)]

theorem logLayoutB_logBytesB (left : Nat) : LogLayoutB (logBytesB n left e) n left e := by
  refine ⟨rfl, toNat_byteOf_mod _, word_of_bytes _, fun c hlow hhigh => ?_⟩
  refine logLaneAt_of_bytes n e fun j hj => ?_
  have hlane : (List.range 4)[c - 4]? = some (c - 4) := List.getElem?_range (by omega)
  have hgroup := getD_flatMap (fun x => length_entryLane n e (x + 4)) hlane hj (0 : Byte)
  rw [Nat.sub_add_cancel hlow] at hgroup
  rw [show 3 + 3 * (c - 4) + j = 3 + (3 * (c - 4) + j) by omega, ← hgroup]
  unfold logBytesB
  rw [List.getD_append_right _ _ _ _ (Nat.le_add_right 3 _)]
  show List.getD _ (3 + (3 * (c - 4) + j) - 3) 0 = _
  rw [Nat.add_sub_cancel_left]

end

/-! ## READ ROW (R14) -/

section

variable (row : RowRecord) (lane : Nat) (e : LaneEntry)

theorem row_flags : ∀ frozen concluded v1 v2 v3 v4 : Bool,
    (List.range 8).map (fun i => (byteOf (bitOf frozen * 128 + bitOf concluded * 64 +
      [bitOf v1 * 1, bitOf v2 * 2, bitOf v3 * 4, bitOf v4 * 8].sum)).getLsbD i) =
      [v1, v2, v3, v4, false, false, concluded, frozen] := by decide

theorem lane_flags : ∀ forced noContact drift sensor voided assumed : Bool,
    (List.range 8).map (fun i => (byteOf (bitOf assumed * 32 + bitOf voided * 16 + bitOf sensor * 8 + bitOf drift * 4 +
      bitOf noContact * 2 + bitOf forced)).getLsbD i) = [forced, noContact, drift, sensor, voided, assumed, false, false] := by
  decide

theorem statement_byte (f : Option Formed) (l : Option Load) (c : Option Card) :
    ([none, some .good, some .bad] : List (Option Formed))[(byteOf (formedCode f * 64 + loadCode l * 8 + cardCode c * 2)).toNat / 64]? =
        some f ∧
      ([none, some .good, some .short, some .over, some .empty] :
        List (Option Load))[(byteOf (formedCode f * 64 + loadCode l * 8 + cardCode c * 2)).toNat / 8 % 8]? = some l ∧
      ([none, some .placed, some .missing, some .skewed] :
        List (Option Card))[(byteOf (formedCode f * 64 + loadCode l * 8 + cardCode c * 2)).toNat / 2 % 4]? = some c ∧
      (byteOf (formedCode f * 64 + loadCode l * 8 + cardCode c * 2)).toNat % 2 = 0 := by
  have hf : formedCode f ≤ 2 ∧ ([none, some .good, some .bad] : List (Option Formed))[formedCode f]? = some f := by
    rcases f with - | (- | -) <;> exact ⟨by decide, rfl⟩
  have hl : loadCode l ≤ 4 ∧ ([none, some .good, some .short, some .over, some .empty] : List (Option Load))[loadCode l]? = some l := by
    rcases l with - | (- | - | - | -) <;> exact ⟨by decide, rfl⟩
  have hc : cardCode c ≤ 3 ∧ ([none, some .placed, some .missing, some .skewed] : List (Option Card))[cardCode c]? = some c := by
    rcases c with - | (- | - | -) <;> exact ⟨by decide, rfl⟩
  rw [toNat_byteOf (by omega), show (formedCode f * 64 + loadCode l * 8 + cardCode c * 2) / 64 = formedCode f by omega,
    show (formedCode f * 64 + loadCode l * 8 + cardCode c * 2) / 8 % 8 = loadCode l by omega,
    show (formedCode f * 64 + loadCode l * 8 + cardCode c * 2) / 2 % 4 = cardCode c by omega]
  exact ⟨hf.2, hl.2, hc.2, by omega⟩

theorem plan_byte (x : Plan) (r : Reason) :
    ([.notSet, .press, .notPressed, .holdOff] : List Plan)[(byteOf (planCode x * 16 + reasonCode r)).toNat / 16]? = some x ∧
      ([.none, .station, .noHeat, .upstream, .overdose, .noCard, .badForm, .crush, .unknown, .missed, .notNeeded] :
        List Reason)[(byteOf (planCode x * 16 + reasonCode r)).toNat % 16]? = some r := by
  have hr := reasonCode_le r
  have hx : planCode x ≤ 3 ∧ ([.notSet, .press, .notPressed, .holdOff] : List Plan)[planCode x]? = some x := by
    cases x <;> exact ⟨by decide, rfl⟩
  rw [toNat_byteOf (by omega), show (planCode x * 16 + reasonCode r) / 16 = planCode x by omega,
    show (planCode x * 16 + reasonCode r) % 16 = reasonCode r by omega]
  exact ⟨hx.2, reason_of_code r⟩

theorem length_slotBytes (xs : List Contribution) (i : Nat) : (slotBytes xs i).length = 4 := by
  unfold slotBytes; split <;> rfl

theorem getD_slot {i j : Nat} (hi : i < 3) (hj : j < 4) :
    (rowBytes row lane e).getD (13 + (4 * i + j)) 0 = (slotBytes e.contributions i).getD j 0 := by
  rw [← getD_flatMap (length_slotBytes e.contributions) (List.getElem?_range hi) hj]
  unfold rowBytes
  rw [List.getD_append_right _ _ _ _ (Nat.le_add_right 13 _)]
  show List.getD _ (13 + (4 * i + j) - 13) 0 = _
  rw [Nat.add_sub_cancel_left]

theorem slot_layout {i : Nat} (hi : i < 3) :
    (∀ x : Contribution, e.contributions[i]? = some x →
        byteAt (rowBytes row lane e) (13 + 4 * i) = x.stage % 256 ∧ fieldAt (rowBytes row lane e) (14 + 4 * i) = x.dose % 65536 ∧
          VerdictByte ((rowBytes row lane e).getD (16 + 4 * i) 0) x.verdict x.reason) ∧
      (e.contributions[i]? = none →
        byteAt (rowBytes row lane e) (13 + 4 * i) = 0 ∧ fieldAt (rowBytes row lane e) (14 + 4 * i) = 0 ∧
          byteAt (rowBytes row lane e) (16 + 4 * i) = 0) := by
  have hslot {j : Nat} (hj : j < 4) := getD_slot row lane e hi hj
  unfold fieldAt byteAt
  rw [show 13 + 4 * i = 13 + (4 * i + 0) by omega, show 14 + 4 * i + 1 = 13 + (4 * i + 2) by omega,
    show 14 + 4 * i = 13 + (4 * i + 1) by omega, show 16 + 4 * i = 13 + (4 * i + 3) by omega, hslot (j := 0) (by decide),
    hslot (j := 1) (by decide), hslot (j := 2) (by decide), hslot (j := 3) (by decide)]
  refine ⟨fun x hx => ?_, fun hnone => ?_⟩
  · unfold slotBytes; rw [hx]
    exact ⟨toNat_byteOf_mod _, field_of_bytes _, verdictByte_code _ _⟩
  · unfold slotBytes; rw [hnone]; exact ⟨rfl, rfl, rfl⟩

theorem rowLayout_rowBytes : RowLayout (rowBytes row lane e) row lane e := by
  obtain ⟨hformed, hload, hcard, heven⟩ := statement_byte e.formed e.load e.card
  obtain ⟨hplan, hreason⟩ := plan_byte e.plan e.planReason
  have hlength : (rowBytes row lane e).length = 25 := by
    unfold rowBytes
    rw [List.length_append, length_flatMap_const (length_slotBytes e.contributions)]; rfl
  exact ⟨hlength, word_of_bytes _, row_flags _ _ _ _ _ _, toNat_byteOf_mod _, hformed, hload, hcard, heven, hplan, hreason,
    field_of_bytes _, field_of_bytes _, verdictByte_code _ _, lane_flags _ _ _ _ _ _, toNat_byteOf_mod _,
    fun i hi => slot_layout row lane e hi⟩

end

end Sys2Proof.Machine.ReplyBytes
end

section
/-! The reading requests (O32, O33): what each takes, and the data of its reply from `ReplyBytes`. -/

namespace Sys2Proof.Machine.Readings

open Outcomes Requests ReplyBytes

/-! ## STATUS and READ CONFIG (R170, R190) -/

theorem clearOnStatus_eq (p : Part) :
    clearOnStatus p = if clearOnStatusRead (cfg p) then { p with control := { p.control with alarms := 0 } } else p := by
  have hnone : p.control.alarms &&& ~~~p.control.alarms = 0 := by
    refine BitVec.eq_of_getLsbD_eq fun i hi => ?_
    rw [BitVec.getLsbD_and, BitVec.getLsbD_not, decide_eq_true hi]
    cases p.control.alarms.getLsbD i <;> simp
  unfold clearOnStatus clearFlags
  rw [hnone]

theorem clearOnStatus_leaves (p : Part) :
    (clearOnStatus p).sequencer = p.sequencer ∧ (clearOnStatus p).pins = p.pins ∧ (clearOnStatus p).loader = p.loader := by
  unfold clearOnStatus clearFlags; split <;> exact ⟨rfl, rfl, rfl⟩

theorem shownBlock_eq (p : Part) :
    (∀ c, p.loader.config = some c → shownBlock p = blockBytes c) ∧
      (p.loader.config = none → ∀ x, p.loader.block = some x → shownBlock p = x) ∧
      (p.loader.config = none → p.loader.block = none → shownBlock p = List.replicate 95 0) := by
  unfold shownBlock
  refine ⟨fun c hc => by rw [hc], fun hnone x hx => by rw [hnone, hx]; rfl, fun hnone hx => by rw [hnone, hx]; rfl⟩

/-- Settles O32: the layout of STATUS, the flags it clears, and the block that READ CONFIG shows. -/
theorem statusAndConfigurationAreRead : Obligations.StatusAndConfigurationAreRead := by
  intro s h r hr
  obtain ⟨hsequencer, hpins, hloader⟩ := clearOnStatus_leaves r
  refine ⟨⟨statusBytes r, statusLayout_statusBytes r, ?_⟩, fun k => ⟨fun hbad => ?_, fun hpart => ?_⟩⟩
  · rw [← clearOnStatus_eq]
    refine takes_of_asked rfl hr (request_alone rfl) ?_ ?_ ?_
    · rw [send_sequencer, hsequencer]
    · rw [send_pins, hpins]
    · rw [send_loader, hloader]
  · exact takes_of_asked rfl hr ((request_accepted rfl rfl).trans (if_pos hbad))
  · obtain ⟨hconfig, hblock, hzeros⟩ := shownBlock_eq r
    exact ⟨shownBlock r, hconfig, hblock, hzeros,
      takes_of_asked rfl hr ((request_accepted rfl rfl).trans (if_neg (Nat.not_lt.mpr hpart)))⟩

/-! ## READ ROW (R70) -/

section

variable {p : Part} {args : List Byte} {h : Header}

theorem namedLane_none
    (hout : p.tracker.h = none ∨ (cfg p).lanes ≤ byteAt args 2 ∨
      ∃ head, p.tracker.h = some head ∧ (tagDiff head (tagAt args 0) < 0 ∨ 47 < tagDiff head (tagAt args 0))) :
    namedLane p args = none := by
  unfold namedLane
  cases hheld : p.tracker.h with
  | none => rfl
  | some head =>
    refine if_neg fun hin => ?_
    simp only [inWindow, Bool.and_eq_true, decide_eq_true_eq] at hin
    obtain ⟨⟨hlow, hhigh⟩, hlane⟩ := hin
    rcases hout with hnone | hlanes | ⟨head', hhead, houtside⟩
    · rw [hnone] at hheld; cases hheld
    · omega
    · rw [hheld] at hhead
      cases hhead
      omega

theorem namedLane_some {head : Tag} {a b : List RowRecord} {row : RowRecord} {e : LaneEntry} (hheld : p.tracker.h = some head)
    (hlow : 0 ≤ tagDiff head row.tag) (hhigh : tagDiff head row.tag ≤ 47) (hrecords : p.tracker.records = a ++ row :: b)
    (hfirst : ∀ y ∈ a, y.tag ≠ row.tag) (htag : tagAt args 0 = row.tag) (hlane : byteAt args 2 < (cfg p).lanes)
    (he : row.lanes[byteAt args 2]? = some e) : namedLane p args = some (row, e) := by
  have hrecord : recordOf p row.tag = some row := by
    unfold recordOf; rw [hrecords]
    exact find_first (fun x hx => by simpa using hfirst x hx) (by simp)
  unfold namedLane
  rw [hheld, htag]
  dsimp only
  rw [hrecord, if_pos (by simp [inWindow, hlow, hhigh, hlane])]
  dsimp only
  rw [he]; rfl

end

/-- Settles O33: each request by its answer, its data by their layouts. -/
theorem countersLogAndRowsAreRead : Obligations.CountersLogAndRowsAreRead := by
  intro s h r hr hmode
  have haccepted := outsideStart_of_mode hmode
  refine ⟨⟨partA r.monitor.counters, countersLayoutA_partA, ?_⟩, ⟨partB (r.monitor.snapshot.getD r.monitor.counters),
    countersLayoutB_partB, ?_⟩, fun hempty => ⟨?_, ?_⟩, fun e es hlog => ⟨⟨_, logLayoutA_logBytesA _ e _ _, ?_⟩,
      ⟨_, logLayoutB_logBytesB _ e _, ?_⟩⟩, fun hi lo lane => ⟨fun hout => ?_, fun head a b row e hheld hlow hhigh hrecords hfirst
        htag hlane he => ⟨_, rowLayout_rowBytes row lane.toNat e, ?_⟩⟩⟩
  · exact takes_of_asked rfl hr (request_alone haccepted) (by simp) (by simp) (by simp)
  · exact takes_of_asked rfl hr (request_alone haccepted) (by simp) (by simp) (by simp)
  · refine takes_of_asked rfl hr ((request_alone haccepted).trans ?_)
    unfold answerLogA; rw [hempty]; rfl
  · refine takes_of_asked rfl hr ((request_alone haccepted).trans ?_)
    unfold answerLogB; rw [hempty]; rfl
  · refine takes_of_asked rfl hr ((request_alone haccepted).trans ?_)
    unfold answerLogA; rw [hlog]; rfl
  · refine takes_of_asked rfl hr ((request_alone haccepted).trans ?_) (by simp) (by simp) (by simp)
    unfold answerLogB dropOldest; rw [hlog]; rfl
  · refine takes_of_asked rfl hr ((request_accepted rfl haccepted).trans ?_)
    unfold answerRow; rw [namedLane_none hout]; rfl
  · refine takes_of_asked rfl hr ((request_accepted rfl haccepted).trans ?_)
    unfold answerRow
    rw [namedLane_some (args := [hi, lo, lane]) hheld hlow hhigh hrecords hfirst htag hlane he]; rfl

end Sys2Proof.Machine.Readings
end

section
/-! The settle end (O42, R63, R65, R69, R114 to R116, R129): a row cycle by its frozen plan, a dry cycle by its fit lanes. -/

namespace Sys2Proof.Machine.SettleEnds

open Outcomes Flushes

section

variable {c : Instr} {f : Part → Part} {s : State} {r q : Part}

/-- A command that leaves the platen in another state than OPENING. -/
theorem takes_of_away (he : exec c s = run f s) (hr : Finds s r) (hf : f r = q) (hplaten : q.sequencer.platen ≠ .opening) :
    Takes c s (endOf q) :=
  takes_of_run he hr hf fun harriving => hplaten harriving.1

end

section

variable {r : Part} {row fixed : RowRecord} {rest : List RowRecord}

theorem endSettle_of_other (h : r.sequencer.platen ≠ .settle ∨ r.sequencer.settleTimer = none) : endSettle r = r := by
  unfold endSettle
  refine if_neg fun ⟨hsettle, htimer⟩ => ?_
  rcases h with hplaten | hnone
  · exact hplaten hsettle
  · rw [hnone] at htimer; cases htimer

theorem endSettle_of_settle (hsettle : r.sequencer.platen = .settle) (htimer : r.sequencer.settleTimer ≠ none) :
    endSettle r = if r.sequencer.dry.isSome then beginDue (settleDry r) else settleRow r := by
  unfold endSettle; exact if_pos ⟨hsettle, Option.isSome_iff_ne_none.mpr htimer⟩

/-- The head row with its plan fixed. -/
theorem freezeHead_eq (hrecords : r.tracker.records = row :: rest) :
    freezeHead r = { r with tracker := { r.tracker with records := freezeRecord r row :: rest } } := by
  unfold freezeHead updateHead withRecords; rw [hrecords]

theorem settleRow_eq (hrecords : r.tracker.records = row :: rest) (hfixed : fixed = freezeRecord r row) :
    settleRow r =
      (let p := { r with tracker := { r.tracker with records := fixed :: rest } }
       if fixed.lanes.any presses then closeCommand (dwellLimitOf (cfg p) p.tracker.lastPeriod) (pressOf fixed) (aimAt fixed) p
       else backToOpen (concludeHead .settleEnd (noClose p))) := by
  subst hfixed
  unfold settleRow
  rw [freezeHead_eq hrecords]
  rfl

theorem any_presses (x : RowRecord) : x.lanes.any presses = true ↔ ∃ e ∈ x.lanes, e.plan = .press := by
  simp only [List.any_eq_true, presses, beq_iff_eq]

/-- In HOLD, DRY and FAULT the first row of the hold-off table holds every lane off (R65). -/
theorem freezeRecord_held (hmode : r.control.mode = .hold ∨ r.control.mode = .dry ∨ r.control.mode = .fault) (row : RowRecord) :
    ∀ e ∈ (freezeRecord r row).lanes, e.plan = .holdOff ∧ e.planReason = .station ∧ e.aim = 0 := by
  have hheld : modeHoldsOff r.control.mode = true := by rcases hmode with h | h | h <;> rw [h] <;> rfl
  refine forall_mapIndexed fun i e _ => ?_
  rw [hheld, PlanFreeze.planLane_of_holdOff (cfg r) row true (laneUnfit r i) e (reason := .station) rfl]
  exact ⟨rfl, rfl, rfl⟩

end

/-- Settles O42: the branches of the settle end. -/
theorem settleEndClosesOrConcludes : Obligations.SettleEndClosesOrConcludes := by
  refine fun s r hr => ⟨fun hother => ?_, fun hsettle htimer hdry row fixed rest hrecords hfixed => ⟨fun hnone => ?_, fun hsome => ?_,
    fun hmode => ?_⟩, fun hsettle htimer hdry => ⟨fun hfit => ?_, fun hunfit => ?_⟩⟩
  · exact takes_of_kept rfl hr (endSettle_of_other hother)
  · have hrow : endSettle r = settleRow r := by rw [endSettle_of_settle hsettle htimer, hdry]; rfl
    refine takes_of_away rfl hr ((hrow.trans (settleRow_eq hrecords hfixed)).trans (if_neg fun hany => ?_)) Platen.noConfusion
    obtain ⟨e, he, hpress⟩ := (any_presses fixed).mp hany
    exact hnone e he hpress
  · have hrow : endSettle r = settleRow r := by rw [endSettle_of_settle hsettle htimer, hdry]; rfl
    exact takes_of_away rfl hr ((hrow.trans (settleRow_eq hrecords hfixed)).trans (if_pos ((any_presses fixed).mpr hsome)))
      Platen.noConfusion
  · rw [hfixed]; exact freezeRecord_held hmode row
  · have hclose : endSettle r = beginDue (closeCommand (cfg r).nconf (dryPresses r) (fun _ => 0) r) := by
      rw [endSettle_of_settle hsettle htimer, if_pos (Option.isSome_iff_ne_none.mpr hdry), settleDry_closes hfit]
    have hstays : beginDue (closeCommand (cfg r).nconf (dryPresses r) (fun _ => 0) r) = _ :=
      if_neg fun h => Platen.noConfusion h.2.2
    exact takes_of_away rfl hr (hclose.trans hstays) Platen.noConfusion
  · have hend : endSettle r = _ := endSettle_of_settle hsettle htimer
    rw [if_pos (Option.isSome_iff_ne_none.mpr hdry), settleDry_ends hunfit] at hend
    exact takes_of_away rfl hr hend (beginDue_platen_ne_opening Platen.noConfusion)

end Sys2Proof.Machine.SettleEnds
end

section
/-! The events that a tick makes due in a cycle, and a recovery given by itself (O45, R81, R119, R129, R141, R143, R152). -/

namespace Sys2Proof.Machine.CycleEvents

open Outcomes DryCycles

/-- A due event, by its effect on the part. -/
theorem takes_due {c : Instr} {f : Part → Part} {s : State} {p q : Part} (he : exec c s = runDue f s) (hp : p = s.part)
    (hf : f p = q) : Takes c s (finish q) := by
  subst hp; subst hf; exact he

/-- The element behind the first part of a list. -/
theorem getD_middle {α : Type} (a b : List α) (x d : α) : (a ++ x :: b).getD a.length d = x := by
  rw [List.getD_append_right _ _ _ _ (Nat.le_refl _), Nat.sub_self]; rfl

section

variable {p : Part} {a b : List LaneDose} {l : LaneDose}

theorem laneDose_middle (hlanes : p.dose.lanes = a ++ l :: b) : laneDose p a.length = l := by
  unfold laneDose; rw [hlanes]; exact getD_middle a b l _

/-! ## The end of a lag (R141) -/

/-- The part with the contact of the lane between `a` and `b` ended. -/
def laneEnded (p : Part) (a b : List LaneDose) (l : LaneDose) : Part :=
  { p with dose := { p.dose with lanes := a ++ { l with contact := .ended } :: b } }

theorem allEnded_iff (d : Dose) : allEnded d = true ↔ ∀ m ∈ d.lanes, m.contact = .ended := by
  simp only [allEnded, List.all_eq_true, beq_iff_eq]

theorem openAfterLag_eq (p : Part) (h : Prop) [Decidable h]
    (hiff : h ↔ p.sequencer.platen = .dwell ∧ p.sequencer.dry = none ∧ ∀ m ∈ p.dose.lanes, m.contact = .ended) :
    openAfterLag p = if h then openCommand p else p := by
  unfold openAfterLag openIfEnded
  simp only [Bool.and_eq_true, Option.isNone_iff_eq_none, allEnded_iff]
  by_cases hdwell : p.sequencer.platen = .dwell
  · rw [if_pos hdwell]
    exact if_congr (by rw [hiff]; exact ⟨fun hx => ⟨hdwell, hx⟩, And.right⟩) rfl rfl
  · rw [if_neg hdwell, if_neg fun hh => hdwell (hiff.mp hh).1]

theorem endLag_over (hlanes : p.dose.lanes = a ++ l :: b) (hover : l.contact = .lag 0) :
    endLag a.length p = openAfterLag (laneEnded p a b l) := by
  have hdue : lagDue p a.length = true := by
    unfold lagDue lagOver; rw [laneDose_middle hlanes, hover]; rfl
  unfold endLag
  rw [if_pos hdue, hlanes, updateAt_append]
  rfl

theorem endLag_other (hlanes : p.dose.lanes = a ++ l :: b) (hother : l.contact ≠ .lag 0) : endLag a.length p = p := by
  unfold endLag lagDue lagOver
  rw [laneDose_middle hlanes]
  exact if_neg (by simpa using hother)

theorem laneEnded_contacts (p : Part) (a b : List LaneDose) (l : LaneDose) :
    (∀ m ∈ (laneEnded p a b l).dose.lanes, m.contact = .ended) ↔ ∀ m ∈ a ++ b, m.contact = .ended := by
  show (∀ m ∈ a ++ { l with contact := .ended } :: b, m.contact = .ended) ↔ _
  simp only [List.forall_mem_append, List.forall_mem_cons, true_and]

/-! ## The ends of a dwell and the dry lifts (R119, R129, R143) -/

theorem limitDue_iff :
    limitDue p = true ↔
      p.sequencer.platen = .dwell ∧ p.sequencer.dry = none ∧ p.sequencer.dwellLimit ≤ p.dose.samples := by
  simp only [limitDue, Bool.and_eq_true, beq_iff_eq, Option.isNone_iff_eq_none, decide_eq_true_eq, and_assoc]

theorem dryEndDue_iff :
    dryEndDue p = true ↔ p.sequencer.platen = .dwell ∧ p.sequencer.dry ≠ none ∧ (cfg p).nconf ≤ p.dose.samples := by
  simp only [dryEndDue, Bool.and_eq_true, beq_iff_eq, Option.isSome_iff_ne_none, decide_eq_true_eq, and_assoc]

theorem dryLiftDue_iff (hlanes : p.dose.lanes = a ++ l :: b) :
    dryLiftDue p a.length = true ↔
      p.sequencer.platen = .dwell ∧ p.sequencer.dry ≠ none ∧ l.contact = .inContact ∧ a.length < (cfg p).lanes ∧
        (cfg p).nconf * (a.length + 1) / ((cfg p).lanes + 1) ≤ p.dose.samples := by
  simp only [dryLiftDue, laneDose_middle hlanes, Bool.and_eq_true, beq_iff_eq, Option.isSome_iff_ne_none, decide_eq_true_eq,
    and_assoc]
  rfl

theorem dryLift_eq (hlanes : p.dose.lanes = a ++ l :: b) (hdue : dryLiftDue p a.length = true) :
    dryLift a.length p =
      { p with
        dose :=
          { p.dose with
            lanes :=
              a ++
                { l with
                  lift := some p.dose.samples,
                  contact := if (cfg p).lead = 0 then .ended else .lag (cfg p).lead } :: b } } := by
  unfold dryLift
  rw [if_pos hdue, hlanes, updateAt_append]
  rfl

end

/-! ## A recovery given by itself (R81) -/

section

variable {r : Part} {conv : List Conversion} {a b : List Channel} {x : Channel}

theorem recoveryDue_middle (hchannels : r.sampling.channels = a ++ x :: b) :
    recoveryDue r a.length = (x.isOpen && decide (x.recovery = 15)) := by
  unfold recoveryDue
  rw [hchannels, List.getElem?_append_right (Nat.le_refl _), Nat.sub_self]
  rfl

theorem recover_eq (hchannels : r.sampling.channels = a ++ x :: b) :
    recover a.length conv r =
      if r.loader.config ≠ none ∧ r.sampling.check = none ∧ a.length < (cfg r).lanes ∧ x.isOpen = true ∧ x.recovery = 15 ∧
          flagged (made (cfg r) conv) = false then
        { r with
          sampling :=
            { r.sampling with channels := a ++ takeTemperature (cfg r) a.length (made (cfg r) conv) x :: b } }
      else r := by
  unfold recover
  rw [recoveryDue_middle hchannels]
  refine if_congr ?_ ?_ rfl
  · simp only [Bool.and_eq_true, Option.isSome_iff_ne_none, Option.isNone_iff_eq_none, decide_eq_true_eq, Bool.not_eq_true',
      and_assoc]
  · rw [hchannels, updateAt_append]

end

/-- Settles O45: each event by its condition. -/
theorem dueCycleEvents : Obligations.DueCycleEvents := by
  intro s p hp
  refine ⟨fun a b l q hlanes hq => ⟨fun hover => ?_, fun hother => takes_due rfl hp (endLag_other hlanes hother)⟩, ?_, ?_,
    fun a b l hlanes => ?_, ⟨rfl, rfl, rfl⟩, fun r conv m a b x hr hm hchannels => ?_⟩
  · replace hq : q = laneEnded p a b l := hq
    subst hq
    refine takes_due rfl hp ((endLag_over hlanes hover).trans (openAfterLag_eq _ _ ?_))
    rw [laneEnded_contacts]
    rfl
  · split
    · next hdue => exact takes_due rfl hp (if_pos (limitDue_iff.mpr hdue))
    · next hdue => exact takes_due rfl hp (if_neg fun hx => hdue (limitDue_iff.mp hx))
  · split
    · next hdue => exact takes_due rfl hp (if_pos (dryEndDue_iff.mpr hdue))
    · next hdue => exact takes_due rfl hp (if_neg fun hx => hdue (dryEndDue_iff.mp hx))
  · split
    · next hdue => exact takes_due rfl hp (dryLift_eq hlanes ((dryLiftDue_iff hlanes).mpr hdue))
    · next hdue => exact takes_due rfl hp (if_neg fun hx => hdue ((dryLiftDue_iff hlanes).mp hx))
  · replace hm : m = made (cfg r) conv := hm
    subst hm
    have hrecover := recover_eq (conv := conv) hchannels
    split
    · next hdue => exact takes_of_kept rfl hr (hrecover.trans (if_pos hdue)) rfl rfl rfl
    · next hdue => exact takes_of_kept rfl hr (hrecover.trans (if_neg hdue))

end Sys2Proof.Machine.CycleEvents
end

section
/-! The ends of a reference check, of the periods, of an on-time and of the idle timeout (O46, R86 to R91, R93, R95, R99, R100, R156,
R160, R191, R200). -/

namespace Sys2Proof.Machine.UnitEvents

open Outcomes CycleEvents StartUp

/-! ## The end of a reference check (R86 to R91) -/

section

variable {p : Part} {c : RefCheck}

theorem endDueCheck_due (hcheck : p.sampling.check = some c) (hticks : 10 ≤ c.ticks) : endDueCheck p = endCheck p := by
  unfold endDueCheck checkDue; rw [hcheck]; exact if_pos (decide_eq_true hticks)

theorem endDueCheck_running (hrunning : ∀ c : RefCheck, p.sampling.check = some c → c.ticks < 10) : endDueCheck p = p := by
  unfold endDueCheck checkDue
  cases hcheck : p.sampling.check with
  | none => rfl
  | some c => exact if_neg fun h => Nat.not_le.mpr (hrunning c hcheck) (of_decide_eq_true h)

/-- The part after the check's result, before the start sequence goes on and the reply is sent. -/
def resulted (x : CheckResult) (p : Part) : Part :=
  raiseIf (x == .drift) .converterDrift { p with sampling := afterCheck x p.sampling }

theorem endCheck_sound {x : CheckResult} (hcheck : p.sampling.check = some c)
    (hresult : checkResult (cfg p).refTol (deviation p.sampling c) = x) (hsound : x ≠ .fault) :
    endCheck p = answerCheck (startAfterCheck x (resulted x p)) := by
  subst hresult
  unfold endCheck
  rw [hcheck]
  dsimp only
  rw [if_neg hsound]
  rfl

theorem endCheck_fault (hcheck : p.sampling.check = some c)
    (hresult : checkResult (cfg p).refTol (deviation p.sampling c) = .fault) :
    endCheck p = answerCheck (markHeaters (takeFault 4 (startAfterCheck .fault (resulted .fault p)))) := by
  unfold endCheck
  rw [hcheck]
  dsimp only
  rw [hresult]
  rfl

theorem startAfterCheck_other {x : CheckResult} (hphase : p.loader.phase ≠ .checking) : startAfterCheck x p = p := by
  unfold startAfterCheck; exact if_neg hphase

theorem startAfterCheck_open {x : CheckResult} (hphase : p.loader.phase = .checking) (hsound : x ≠ .fault)
    (hopened : p.sequencer.platen = .opened) : startAfterCheck x p = completeStart p := by
  unfold startAfterCheck
  rw [if_pos hphase]
  cases x with
  | fault => exact absurd rfl hsound
  | pass => exact if_pos hopened
  | drift => exact if_pos hopened

theorem startAfterCheck_waits {x : CheckResult} (hphase : p.loader.phase = .checking) (hsound : x ≠ .fault)
    (haway : p.sequencer.platen ≠ .opened) :
    startAfterCheck x p =
      { p with loader := { p.loader with phase := .waiting, waitTimer := some (cfg p).openTimeout } } := by
  unfold startAfterCheck
  rw [if_pos hphase]
  cases x with
  | fault => exact absurd rfl hsound
  | pass => exact if_neg haway
  | drift => exact if_neg haway

theorem startAfterCheck_fault :
    startAfterCheck .fault p =
      { p with loader := { p.loader with phase := if p.loader.phase = .checking then .failed else p.loader.phase } } := by
  unfold startAfterCheck; split <;> rfl

theorem resulted_eq {x : CheckResult} (p : Part) (hsound : x ≠ .fault) :
    resulted x p =
      if x = .pass then { p with sampling := { p.sampling with check := none, drift := false } }
      else raise .converterDrift { p with sampling := { p.sampling with check := none, drift := true } } := by
  cases x with
  | fault => exact absurd rfl hsound
  | pass => rfl
  | drift => rfl

theorem resulted_kept {x : CheckResult} (p : Part) :
    (resulted x p).loader = p.loader ∧ (resulted x p).sequencer = p.sequencer := by
  unfold resulted raiseIf; split <;> exact ⟨rfl, rfl⟩

theorem checkResult_sound {tolerance dev : Nat} (h : dev ≤ 4 * tolerance) :
    checkResult tolerance dev = if dev ≤ tolerance then .pass else .drift := by
  unfold checkResult; rw [if_pos h]

theorem checkResult_fault {tolerance dev : Nat} (h : 4 * tolerance < dev) : checkResult tolerance dev = .fault := by
  unfold checkResult; rw [if_neg (by omega), if_neg (by omega)]

end

/-! ## A start that is complete (R156, R160, R200) -/

section

variable {q : Part}

/-- SEEK as a complete start enters it, the stop input not yet examined. -/
def startCompleted (q : Part) : Part :=
  { q with
    loader := { q.loader with phase := .complete, waitTimer := none }, control := { q.control with mode := .seek },
    regulator := { q.regulator with idle := false, listen := 2 },
    sequencer := { q.sequencer with dryTimer := none, dryDue := false } }

theorem regulatorOnMode_start_seek (g : Regulator) : regulatorOnMode .start .seek g = { g with idle := false, listen := 2 } := by
  simp [regulatorOnMode, idleMode]

theorem completeStart_eq (hmode : q.control.mode = .start) :
    completeStart q = if q.pins.stopInput then activateStop (startCompleted q) else startCompleted q := by
  have hseek : setMode .seek { q with loader := { q.loader with phase := .complete, waitTimer := none } } = startCompleted q := by
    unfold setMode
    dsimp only
    rw [hmode, regulatorOnMode_start_seek]; rfl
  unfold completeStart
  dsimp only
  rw [hseek]; rfl

theorem activateStop_sequencer (hmode : q.control.mode ≠ .run) : (activateStop q).sequencer = q.sequencer := by
  have hother : (send (.lineStop .input) (setLineStop q)).control.mode ≠ .run := by simpa using hmode
  unfold activateStop stopToHold
  rw [if_neg hother]
  simp

end

/-! ## The period ends (R93, R99, R100, R104) -/

section

variable {p : Part}

theorem endDuePeriod_due (hticks : 32 ≤ p.regulator.ticks) : endDuePeriod p = endPeriod p := if_pos (decide_eq_true hticks)

theorem budgetDue_iff : budgetDue p = true ↔ 32 ≤ p.regulator.ticks ∧ 3 ≤ p.regulator.periods := by
  simp only [budgetDue, periodDue, Bool.and_eq_true, decide_eq_true_eq]

theorem endPeriod_plain (hperiods : p.regulator.periods < 3) :
    endPeriod p =
      readRegulator
        { computeDuties p with
          regulator :=
            { (computeDuties p).regulator with
              heaters := (computeDuties p).regulator.heaters.map (startHeater p.regulator.scale), ticks := 0,
              periods := p.regulator.periods + 1 } } := by
  have hnone : budgetDue p = false := Bool.eq_false_of_not_eq_true fun h => Nat.not_le.mpr hperiods (budgetDue_iff.mp h).2
  have hcount : (if 3 ≤ p.regulator.periods then 0 else p.regulator.periods + 1) = p.regulator.periods + 1 :=
    if_neg (Nat.not_le.mpr hperiods)
  unfold endPeriod
  rw [hnone, ← hcount]
  rfl

theorem sendDraw_regulator (u : Part) : (sendDraw u).regulator = u.regulator := by unfold sendDraw; split <;> simp

theorem endPeriod_budget (hticks : 32 ≤ p.regulator.ticks) (hperiods : 3 ≤ p.regulator.periods) :
    endPeriod p =
      (let u := computeScale (computeDuties p)
       readRegulator
        { sendDraw u with
          regulator :=
            { (sendDraw u).regulator with
              listen := p.regulator.listen - 1,
              heaters := (computeDuties p).regulator.heaters.map (startHeater u.regulator.scale), ticks := 0,
              periods := 0 } }) := by
  have hregulator := sendDraw_regulator (computeScale (computeDuties p))
  have hcount : (if 3 ≤ (sendDraw (computeScale (computeDuties p))).regulator.periods then 0
      else (sendDraw (computeScale (computeDuties p))).regulator.periods + 1) = 0 := by
    rw [hregulator]; exact if_pos hperiods
  have hbegin : beginPeriod (endBudget (computeDuties p)) =
      { sendDraw (computeScale (computeDuties p)) with
        regulator :=
          { (sendDraw (computeScale (computeDuties p))).regulator with
            listen := (sendDraw (computeScale (computeDuties p))).regulator.listen - 1,
            heaters := (sendDraw (computeScale (computeDuties p))).regulator.heaters.map
              (startHeater (sendDraw (computeScale (computeDuties p))).regulator.scale),
            ticks := 0, periods := 0 } } := by
    unfold beginPeriod endBudget lowerListen
    dsimp only
    rw [hcount]
  unfold endPeriod
  rw [budgetDue_iff.mpr ⟨hticks, hperiods⟩]
  dsimp only
  rw [if_pos rfl, hbegin, hregulator]
  rfl

theorem readRegulator_eta (z : Part) :
    readRegulator z =
      raiseIf (decide (z.regulator.scale < 256)) .supplyShort { z with monitor := (readRegulator z).monitor } := by
  unfold readRegulator raiseIf; split <;> rfl

/-! ## On-times and the idle timeout (R95, R100) -/

theorem endHeater_eq {a b : List Heater} {x : Heater} (hheaters : p.regulator.heaters = a ++ x :: b) :
    endHeater a.length p =
      if x.on = true ∧ x.applied < 64 ∧ x.applied ≤ 2 * p.regulator.ticks + 2 then
        { p with
          regulator :=
            { p.regulator with
              heaters :=
                a ++ { x with on := false, seen := x.seen && decide (2 * p.regulator.ticks < x.applied) } :: b } }
      else p := by
  have hlane : laneHeater p a.length = x := by unfold laneHeater; rw [hheaters]; exact getD_middle a b x _
  unfold endHeater onTimeOver
  rw [hlane]
  refine if_congr ?_ ?_ rfl
  · simp only [Bool.and_eq_true, decide_eq_true_eq, and_assoc]
  · rw [hheaters, updateAt_append]; rfl

theorem idleMode_iff (m : Mode) : idleMode m = true ↔ m = .run ∨ m = .hold := by cases m <;> decide

theorem idleDue_iff :
    idleDue p = true ↔
      (p.control.mode = .run ∨ p.control.mode = .hold) ∧ p.regulator.idle = false ∧
        1000 * (cfg p).idleTimeout ≤ p.regulator.idleClock ∧ p.loader.config ≠ none := by
  simp only [idleDue, Bool.and_eq_true, Bool.not_eq_true', decide_eq_true_eq, Option.isSome_iff_ne_none, idleMode_iff, and_assoc]

end

theorem answerCheck_unique {answer : Part → Part}
    (h : ∀ q : Part,
      answer q =
        match q.responder.pendingCheck with
        | some w => send (.serviceReply w 17 .done []) { q with responder := { q.responder with pendingCheck := none } }
        | none => q) :
    answer = answerCheck := by
  funext q
  rw [h]
  unfold answerCheck
  cases q.responder.pendingCheck <;> rfl

/-- A check within four times its tolerance, by the start phase that it finds. -/
theorem endCheck_within {p q : Part} {c : RefCheck} (hcheck : p.sampling.check = some c)
    (hwithin : deviation p.sampling c ≤ 4 * (cfg p).refTol)
    (hq : q =
      if deviation p.sampling c ≤ (cfg p).refTol then { p with sampling := { p.sampling with check := none, drift := false } }
      else raise .converterDrift { p with sampling := { p.sampling with check := none, drift := true } }) :
    q.loader = p.loader ∧ q.sequencer = p.sequencer ∧
      ∃ x, x ≠ CheckResult.fault ∧ endCheck p = answerCheck (startAfterCheck x q) := by
  have hresult := checkResult_sound hwithin
  by_cases hpass : deviation p.sampling c ≤ (cfg p).refTol
  · rw [if_pos hpass] at hresult hq
    have hresulted : q = resulted .pass p := hq.trans (resulted_eq p (x := .pass) (by decide)).symm
    obtain ⟨hloader, hsequencer⟩ := resulted_kept (x := .pass) p
    rw [hresulted]
    exact ⟨hloader, hsequencer, .pass, by decide, endCheck_sound hcheck hresult (by decide)⟩
  · rw [if_neg hpass] at hresult hq
    have hresulted : q = resulted .drift p := hq.trans (resulted_eq p (x := .drift) (by decide)).symm
    obtain ⟨hloader, hsequencer⟩ := resulted_kept (x := .drift) p
    rw [hresulted]
    exact ⟨hloader, hsequencer, .drift, by decide, endCheck_sound hcheck hresult (by decide)⟩

/-- Settles O46: each end by its condition. -/
theorem dueUnitEvents : Obligations.DueUnitEvents := by
  intro s p hp
  refine ⟨fun c dev answer hcheck hticks hdev hanswer => ⟨fun hwithin q hq => ?within, fun hbeyond f hf => ?beyond⟩,
    fun q t hmode ht => ?completed, fun hrunning => takes_due rfl hp (endDueCheck_running hrunning),
    fun hticks => ⟨takes_due rfl hp (if_neg ?_), takes_due rfl hp (if_neg ?_)⟩,
    readRegulator_eta, fun hticks q begun hq hbegun => ⟨fun hperiods => ?plain, fun hperiods w u v hw hu hv t ht => ?budget⟩,
    fun a b x hheaters => ?heater, ?idle⟩
  case within =>
    obtain rfl := answerCheck_unique hanswer
    replace hdev : dev = deviation p.sampling c := hdev
    subst hdev
    obtain ⟨hloader, hsequencer, x, hsound, hend⟩ := endCheck_within hcheck hwithin hq
    have hdue := (endDueCheck_due hcheck hticks).trans hend
    refine ⟨fun hphase => ?_, fun hphase hopened => ?_, fun hphase haway => ?_⟩
    · rw [startAfterCheck_other (hloader ▸ hphase)] at hdue
      exact takes_due rfl hp hdue
    · rw [startAfterCheck_open (hloader ▸ hphase) hsound (hsequencer ▸ hopened)] at hdue
      exact takes_due rfl hp hdue
    · rw [startAfterCheck_waits (hloader ▸ hphase) hsound (hsequencer ▸ haway), Concluding.cfg_congr hloader] at hdue
      exact takes_due rfl hp hdue
  case beyond =>
    obtain rfl := answerCheck_unique hanswer
    replace hdev : dev = deviation p.sampling c := hdev
    subst hdev
    have hdue := (endDueCheck_due hcheck hticks).trans (endCheck_fault hcheck (checkResult_fault hbeyond))
    rw [startAfterCheck_fault] at hdue
    subst hf
    exact takes_due rfl hp hdue
  case completed =>
    rw [ht, completeStart_eq hmode]
    cases hstop : q.pins.stopInput with
    | false =>
      exact ⟨rfl, rfl, rfl, rfl, rfl, rfl, rfl, rfl, rfl, rfl, rfl, rfl, fun _ => ⟨rfl, rfl, rfl⟩, fun h => Bool.noConfusion h⟩
    | true =>
      obtain ⟨hline, hseek, hport, hfrozen, -, htracker⟩ := activateStop_gives (startCompleted q)
      have hnotrun : (startCompleted q).control.mode ≠ .run := Mode.noConfusion
      rw [if_neg hnotrun] at hseek htracker
      have hloader : (activateStop (startCompleted q)).loader = (startCompleted q).loader := by simp
      refine ⟨hseek, by simp; rfl, by simp; rfl, hloader, (activateStop_regulator _).trans rfl,
        activateStop_sequencer hnotrun, htracker, by simp; rfl, by simp; rfl, by simp; rfl, by simp; rfl, by simp; rfl,
        fun h => Bool.noConfusion h, fun _ => ⟨hline, ?_, hfrozen⟩⟩
      exact hport.trans (send_port_congr _ rfl rfl hloader.symm)
  case plain =>
    obtain rfl : begun = startHeater := funext fun f => funext fun x => hbegun f x
    subst hq
    exact ⟨takes_due rfl hp ((endDuePeriod_due hticks).trans (endPeriod_plain hperiods)),
      takes_due rfl hp (if_neg fun h => Nat.not_le.mpr hperiods (budgetDue_iff.mp h).2)⟩
  case budget =>
    obtain rfl : begun = startHeater := funext fun f => funext fun x => hbegun f x
    subst hq hw hu
    have hsent : v = sendDraw (computeScale (computeDuties p)) := hv
    have hend : endPeriod p = t := by rw [endPeriod_budget hticks hperiods, ht, hsent]; rfl
    exact ⟨takes_due rfl hp ((endDuePeriod_due hticks).trans hend),
      takes_due rfl hp ((if_pos (budgetDue_iff.mpr ⟨hticks, hperiods⟩)).trans hend)⟩
  case heater =>
    have hheater := endHeater_eq hheaters
    split
    · next hdue => exact takes_due rfl hp (hheater.trans (if_pos hdue))
    · next hdue => exact takes_due rfl hp (hheater.trans (if_neg hdue))
  case idle =>
    split
    · next hdue => exact takes_due rfl hp (if_pos (idleDue_iff.mpr hdue))
    · next hdue => exact takes_due rfl hp (if_neg fun h => hdue (idleDue_iff.mp h))
  · simpa [periodDue] using hticks
  · exact fun h => Nat.not_le.mpr hticks (budgetDue_iff.mp h).1

end Sys2Proof.Machine.UnitEvents
end

section
/-! The timers of the platen and its arrival at OPEN (O47, R112, R120 to R123, R128, R149, R165). -/

namespace Sys2Proof.Machine.PlatenTimers

open Outcomes Concluding DryCycles SettleEnds

/-! ## The close timeout (R120, R121) -/

section

variable {r t : Part}

theorem timeOutClose_due (hclosing : r.sequencer.platen = .closing) (htimer : r.sequencer.closeTimer ≠ none) :
    timeOutClose r = countTimeout (raise .closeTimeout (concludeTimeout (openCommand r))) := by
  unfold timeOutClose; exact if_pos ⟨hclosing, Option.isSome_iff_ne_none.mpr htimer⟩

theorem timeOutClose_other (h : r.sequencer.platen ≠ .closing ∨ r.sequencer.closeTimer = none) : timeOutClose r = r := by
  unfold timeOutClose
  refine if_neg fun ⟨hclosing, htimer⟩ => ?_
  rcases h with hplaten | hnone
  · exact hplaten hclosing
  · rw [hnone] at htimer; cases htimer

theorem concludeTimeout_row (hdry : r.sequencer.dry = none) :
    concludeTimeout (openCommand r) = concludeHead .closeTimeout (openCommand r) := by
  unfold concludeTimeout; rw [openCommand_sequencer, hdry]

theorem concludeTimeout_dry {cycle : DryCycle} (hdry : r.sequencer.dry = some cycle) :
    concludeTimeout (openCommand r) =
      logCycle cycle.tag true false false
        { openCommand r with
          sequencer := { (openCommand r).sequencer with dry := some { cycle with logged := true } } } := by
  unfold concludeTimeout; rw [openCommand_sequencer, hdry]

theorem countTimeout_eq {n : Nat} (hn : n = min 3 (t.sequencer.closeTimeouts + 1)) :
    countTimeout t =
      if n = 3 then takeFault 3 { t with sequencer := { t.sequencer with closeTimeouts := n } }
      else { t with sequencer := { t.sequencer with closeTimeouts := n } } := by
  subst hn; rfl

end

/-! ## The open timeout (R123) -/

section

variable {p r : Part}

theorem timeOutOpen_due (hopening : r.sequencer.platen = .opening) (htimer : r.sequencer.openTimer ≠ none) :
    timeOutOpen r = takeFault 1 (raise .openTimeout { r with sequencer := { r.sequencer with openTimer := none } }) := by
  unfold timeOutOpen; exact if_pos ⟨hopening, Option.isSome_iff_ne_none.mpr htimer⟩

theorem timeOutOpen_other (h : r.sequencer.platen ≠ .opening ∨ r.sequencer.openTimer = none) : timeOutOpen r = r := by
  unfold timeOutOpen
  refine if_neg fun ⟨hopening, htimer⟩ => ?_
  rcases h with hplaten | hnone
  · exact hplaten hopening
  · rw [hnone] at htimer; cases htimer

theorem faultSequencer_opening (hopening : p.sequencer.platen = .opening) :
    (faultSequencer p).sequencer.platen = .opening ∧
      (faultSequencer p).tracker = { p.tracker with chatter := (faultSequencer p).tracker.chatter } := by
  by_cases hdry : p.sequencer.dry = none
  · rw [faultSequencer_other hdry (by rw [hopening]; rfl)]; exact ⟨hopening, rfl⟩
  · rw [faultSequencer_dry hdry]
    refine ⟨?_, (cutDry_eta false p).1⟩
    rw [cutDry_opening false hopening, endDry_sequencer]; exact hopening

/-- A fault that finds the platen in OPENING leaves it there. -/
theorem takeFault_opening (code : Nat) (hopening : p.sequencer.platen = .opening) :
    (takeFault code p).control.mode = .fault ∧ (takeFault code p).sequencer.platen = .opening ∧
      (takeFault code p).tracker.records = p.tracker.records ∧
      (takeFault code p).tracker.pendingRealign = p.tracker.pendingRealign := by
  by_cases hmode : p.control.mode = .fault
  · rw [takeFault_further code hmode]; exact ⟨hmode, hopening, rfl, rfl⟩
  · have hstays : (faultEntered code p).sequencer.platen = .opening := by rw [faultEntered_sequencer]; exact hopening
    have htracker : (faultEntered code p).tracker = p.tracker := send_tracker _ _
    obtain ⟨hplaten, hchatter⟩ := faultSequencer_opening hstays
    rw [takeFault_first code hmode, hchatter, htracker, faultSequencer_mode]
    exact ⟨send_mode _ _, hplaten, rfl, rfl⟩

end

/-! ## The arrival at OPEN (R122) -/

/-- The part with the open sensor active. -/
def sensed (r : Part) : Part := { r with pins := { r.pins with openSensor := true } }

section

variable {r q : Part}

theorem arrive_sensed (hopening : r.sequencer.platen = .opening) (hbegun : r.loader.phase ≠ .off) :
    arrive (sensed r) = enterOpen (sensed r) := by
  unfold arrive; exact if_pos ⟨hopening, rfl, hbegun⟩

theorem concludeArrival_row (hdry : q.sequencer.dry = none) :
    concludeArrival q = if q.dose.closeCommanded = true ∧ headFrozen q = true then concludeHead .arrival q else q := by
  unfold concludeArrival
  rw [hdry, Option.isSome_none, if_neg Bool.false_ne_true]
  simp only [Bool.and_eq_true]

theorem concludeArrival_dry (hdry : q.sequencer.dry ≠ none) : concludeArrival q = endDry false false q := by
  unfold concludeArrival; exact if_pos (Option.isSome_iff_ne_none.mpr hdry)

theorem concludeArrival_logged {cycle : DryCycle} (hdry : q.sequencer.dry = some cycle) (hlogged : cycle.logged = true) :
    concludeArrival q = offCycle q := by
  rw [concludeArrival_dry (by simp [hdry]), endDry_of_some hdry, hlogged, Bool.not_true, Bool.and_false]; rfl

theorem concludeArrival_entered {cycle : DryCycle} (hopened : q.sequencer.platen = .opened) (hdry : q.sequencer.dry = some cycle)
    (hlogged : cycle.logged = false) :
    concludeArrival q =
      raiseIf (decide (64 ≤ q.log.entries.length)) .logOverflow
        { q with
          sequencer := { q.sequencer with dry := none }, tracker := { q.tracker with chatter := false },
          log := (logCycle cycle.tag true false false (offCycle q)).log } := by
  rw [concludeArrival_dry (by simp [hdry]), endDry_of_some hdry, hlogged, hopened]
  show logCycle cycle.tag true false false (offCycle q) = _
  rw [logCycle_eq]
  unfold offCycle raiseIf
  dsimp only
  split <;> rfl

theorem applyPending_none (h : q.tracker.pendingRealign = none ∨ q.tracker.h = none) : applyPending q = q := by
  unfold applyPending applyRealignment
  rcases h with hnone | hnone
  · rw [hnone]
  · rw [hnone]; cases q.tracker.pendingRealign <;> rfl

theorem applyPending_some {x : Realignment} {head : Tag} (hpending : q.tracker.pendingRealign = some x)
    (hheld : q.tracker.h = some head) :
    applyPending q =
      count .realign (raise .realigned (send (realignNotice (cfg q) head x) (moveQueue head x.d q))) := by
  unfold applyPending; rw [hpending]; exact Evidence.applyRealignment_of_held hheld

theorem beginDue_other (h : q.sequencer.dryDue = false ∨ q.control.mode ≠ .dry) : beginDue q = q := by
  unfold beginDue
  refine if_neg fun ⟨hdue, hmode, _⟩ => ?_
  rcases h with hnot | hother
  · rw [hnot] at hdue; cases hdue
  · exact hother hmode

theorem beginDue_due (hdue : q.sequencer.dryDue = true) (hmode : q.control.mode = .dry) (hopened : q.sequencer.platen = .opened) :
    beginDue q = beginDry q := by
  unfold beginDue; exact if_pos ⟨hdue, hmode, hopened⟩

theorem beginDry_platen_ne_opening (p : Part) : (beginDry p).sequencer.platen ≠ .opening := by
  unfold beginDry settleDry backToOpen closeCommand
  dsimp only
  split
  · split <;> exact Platen.noConfusion
  · exact Platen.noConfusion

theorem expireDryPeriod_due (hmode : r.control.mode = .dry) (htimer : r.sequencer.dryTimer ≠ none) :
    expireDryPeriod r =
      if r.sequencer.platen = .opened then beginDry r
      else { r with sequencer := { r.sequencer with dryTimer := none, dryDue := true } } := by
  unfold expireDryPeriod; exact if_pos ⟨hmode, Option.isSome_iff_ne_none.mpr htimer⟩

theorem expireDryPeriod_other (h : r.control.mode ≠ .dry ∨ r.sequencer.dryTimer = none) : expireDryPeriod r = r := by
  unfold expireDryPeriod
  refine if_neg fun ⟨hmode, htimer⟩ => ?_
  rcases h with hother | hnone
  · exact hother hmode
  · rw [hnone] at htimer; cases htimer

end

/-- Settles O47: each timer by its condition, the arrival step by step. -/
theorem platenTimersAndArrival : Obligations.PlatenTimersAndArrival := by
  intro s r hr
  refine ⟨fun n t hclosing htimer hdry hn ht => ?row, fun n t cycle hclosing htimer hdry hn ht => ?cycle,
    fun hother => takes_of_kept rfl hr (timeOutClose_other hother), fun hopening htimer => ?openTimeout,
    fun hother => takes_of_kept rfl hr (timeOutOpen_other hother), fun hother => ?noArrival,
    fun hopening hbegun q a b c d hq harow halogged haentered hbnone hbsome hcother hcdue hd => ?arrival,
    fun hmode htimer => ⟨fun hopened => ?_, fun haway => ?_⟩, fun hother => takes_of_kept rfl hr (expireDryPeriod_other hother)⟩
  case row =>
    have htimeouts : n = min 3 (t.sequencer.closeTimeouts + 1) := by
      rw [hn, ht, raise_sequencer, concludeHead_sequencer]; rfl
    rw [← countTimeout_eq htimeouts, ht, ← concludeTimeout_row hdry]
    exact takes_of_run_finish rfl hr (timeOutClose_due hclosing htimer)
  case cycle =>
    have htimeouts : n = min 3 (t.sequencer.closeTimeouts + 1) := by
      rw [hn, ht, raise_sequencer, logCycle_sequencer]; rfl
    rw [← countTimeout_eq htimeouts, ht, ← concludeTimeout_dry hdry]
    exact takes_of_run_finish rfl hr (timeOutClose_due hclosing htimer)
  case openTimeout =>
    obtain ⟨hmode, hplaten, hrecords, hpending⟩ := takeFault_opening (p := raise .openTimeout
      { r with sequencer := { r.sequencer with openTimer := none } }) 1 hopening
    exact ⟨_, rfl, takes_of_run_finish rfl hr (timeOutOpen_due hopening htimer), hmode, hplaten, hrecords, hpending⟩
  case noArrival =>
    refine takes_of_run rfl hr rfl fun ⟨hopening, _, hbegun⟩ => ?_
    rcases hother with hplaten | hoff
    · exact hplaten hopening
    · exact hbegun hoff
  case arrival =>
    have hopened : platenOpened (sensed r) = q := hq.symm
    have hqsequencer : q.sequencer = { r.sequencer with platen := .opened, openTimer := none } := by rw [hq]
    have hdry : q.sequencer.dry = r.sequencer.dry := by rw [hqsequencer]
    have hqopened : q.sequencer.platen = .opened := by rw [hqsequencer]
    have ha : concludeArrival q = a := by
      cases hcycle : r.sequencer.dry with
      | none => rw [concludeArrival_row (hdry.trans hcycle), harow hcycle, hq]; rfl
      | some cycle =>
        cases hlogged : cycle.logged with
        | true => exact (concludeArrival_logged (hdry.trans hcycle) hlogged).trans (halogged cycle hcycle hlogged).symm
        | false =>
          rw [concludeArrival_entered hqopened (hdry.trans hcycle) hlogged]
          have hentered : LoggedIn (logCycle cycle.tag true false false (offCycle q)).log _ q :=
            loggedIn_congr (q := offCycle q) rfl rfl (logCycle_logged rfl)
          rw [haentered cycle _ _ hcycle hlogged rfl hentered, hq]
    have hcfg : cfg a = cfg r := cfg_congr (by rw [← ha, concludeArrival_loader, hq])
    have hb : applyPending a = b := by
      cases hpending : a.tracker.pendingRealign with
      | none => rw [applyPending_none (.inl hpending), hbnone (.inl hpending)]
      | some x =>
        cases hheld : a.tracker.h with
        | none => rw [applyPending_none (.inr hheld), hbnone (.inr hheld)]
        | some head =>
          rw [applyPending_some hpending hheld, hbsome x head hpending hheld, Evidence.moveQueue_eq, hcfg]
          rfl
    have hbloader : b.loader = r.loader := by rw [← hb, applyPending_loader, ← ha, concludeArrival_loader, hq]
    have hbopened : b.sequencer.platen = .opened := by
      rw [← hb, applyPending_sequencer, ← ha, concludeArrival_platen]; exact hqopened
    have hc : beginDue b = c := by
      by_cases hdue : b.sequencer.dryDue = true ∧ b.control.mode = .dry
      · rw [beginDue_due hdue.1 hdue.2 hbopened, hcdue hdue.1 hdue.2 _ rfl, ← cfg_congr hbloader]; rfl
      · have hother : b.sequencer.dryDue = false ∨ b.control.mode ≠ .dry := by
          rwa [not_and_or, Bool.not_eq_true] at hdue
        rw [beginDue_other hother, hcother hother]
    have hcloader : c.loader = r.loader := by rw [← hc, beginDue_loader, hbloader]
    have hwhole : enterOpen (sensed r) = d := by
      unfold enterOpen completeIfWaiting
      rw [hopened, ha, hb, hc, hcloader, hd]
    have htakes : Takes .openSensorActive s (finish (sensed r)) := takes_of_run_finish rfl hr rfl
    rw [finish_eq, arrive_sensed hopening hbegun] at htakes
    exact ⟨htakes, hwhole ▸ htakes⟩
  · exact takes_of_away rfl hr ((expireDryPeriod_due hmode htimer).trans (if_pos hopened)) (beginDry_platen_ne_opening r)
  · exact takes_of_kept rfl hr ((expireDryPeriod_due hmode htimer).trans (if_neg haway)) rfl rfl rfl

end Sys2Proof.Machine.PlatenTimers
end

section
/-! Index edges (O39, O40, R27 to R31, R34 to R40, R49, R95, R113, R114, R130): ignored, chatter, or accepted, and an accepted one
with H held and the platen OPEN or in SETTLE. -/

namespace Sys2Proof.Machine.IndexEdges

open Outcomes Joining Concluding DryCycles Flushes SettleEnds PlatenTimers

/-! ## The edge (R27 to R31) -/

section

variable {r : Part} {now ms : Nat}

/-- An accepted edge before the steps of R36: recorded, counted, the transmit queue aged, the idle clock restarted and the quiet count
moved. -/
def accepted (ms : Nat) (r : Part) : Part :=
  { ageQueue (count .index r) with
    tracker :=
      { recordEdge ms r.tracker with msCount := ms, quietCount := quietAfterIndex r.control.mode r.tracker.quietCount },
    regulator := { r.regulator with idleClock := 0, idle := false } }

theorem countTimes_tracker (e : Event) (n : Nat) (k : Tracker) (p : Part) :
    countTimes e n { p with tracker := k } = { countTimes e n p with tracker := k } := by
  induction n generalizing p with
  | zero => rfl
  | succ n ih => exact ih (count e p)

theorem ageQueue_count_tracker (k : Tracker) (p : Part) :
    ageQueue (count .index { p with tracker := k }) = { ageQueue (count .index p) with tracker := k } :=
  countTimes_tracker .txDropped _ k (withQueue _ (count .index p))

theorem accepted_eq (hms : ms = max now r.tracker.msCount) :
    countQuiet (restartIdle (ageQueue (count .index
      { readClock now r with tracker := recordEdge ms (readClock now r).tracker }))) = accepted ms r := by
  subst hms
  have haged := ageQueue_count_tracker (recordEdge (max now r.tracker.msCount) (readClock now r).tracker) r
  refine (congrArg (fun p => countQuiet (restartIdle p)) haged).trans ?_
  simp [countQuiet, restartIdle, accepted, recordEdge, readClock]

theorem takeEdge_start (hmode : r.control.mode = .start) : takeEdge now r = r := if_pos hmode

theorem takeEdge_chatter {e : Nat} (hmode : r.control.mode ≠ .start) (hms : ms = max now r.tracker.msCount)
    (hedge : r.tracker.lastEdge = some e) (hsoon : ms - e < (cfg r).minIndex) :
    takeEdge now r = count .indexChatter { r with tracker := { r.tracker with msCount := ms, chatter := true } } := by
  subst hms
  have hchatter : isChatter (cfg r) r.tracker.lastEdge (max now r.tracker.msCount) = true := by
    rw [hedge]; exact decide_eq_true hsoon
  exact (if_neg hmode).trans (if_pos hchatter)

theorem takeEdge_accepted (hmode : r.control.mode ≠ .start) (hms : ms = max now r.tracker.msCount)
    (hdue : ∀ e, r.tracker.lastEdge = some e → (cfg r).minIndex ≤ ms - e) :
    takeEdge now r = clearChatter (advanceRows (accepted ms r)) := by
  have hchatter : isChatter (cfg r) r.tracker.lastEdge ms = false := by
    unfold isChatter; split
    · next e he => exact decide_eq_false (Nat.not_lt.mpr (hdue e he))
    · rfl
  have hbranch : takeEdge now r = acceptIndex ms (readClock now r) := by
    subst hms
    exact (if_neg hmode).trans (if_neg (Bool.eq_false_iff.mp hchatter))
  rw [hbranch, ← accepted_eq hms]
  rfl

/-- The edge written out as the statements have it. -/
theorem accepted_written {q : Part} (hq : q = ageQueue (count .index r)) :
    accepted ms r =
      { q with
        tracker :=
          { r.tracker with
            msCount := ms, lastEdge := some ms,
            lastPeriod :=
              (match r.tracker.lastEdge with
                | some e => some (min 65535 (ms - e))
                | none => r.tracker.lastPeriod),
            indexCount := r.tracker.indexCount + 1,
            quietCount := if r.control.mode = .run then min 255 (r.tracker.quietCount + 1) else 0 },
        regulator := { r.regulator with idleClock := 0, idle := false } } := by
  subst hq
  unfold accepted recordEdge quietAfterIndex
  cases r.tracker.lastEdge <;> rfl

theorem accepted_leaves (ms : Nat) (r : Part) :
    (accepted ms r).sampling = r.sampling ∧ (accepted ms r).sequencer = r.sequencer ∧ (accepted ms r).dose = r.dose ∧
      (accepted ms r).control = r.control ∧ (accepted ms r).log = r.log ∧ (accepted ms r).responder = r.responder ∧
      (accepted ms r).loader = r.loader ∧ (accepted ms r).pins = r.pins ∧ (accepted ms r).tracker.h = r.tracker.h ∧
      (accepted ms r).tracker.records = r.tracker.records := by
  simp [accepted, recordEdge]

end

theorem advanceCandidate_seek {p : Part} (hseek : p.control.mode = .seek) :
    advanceCandidate p = { p with tracker := { p.tracker with candidate := p.tracker.candidate.map (fun c => c + 1) } } :=
  if_pos hseek

theorem advanceCandidate_other {p : Part} (hother : p.control.mode ≠ .seek) : advanceCandidate p = p := if_neg hother

/-- Settles O39: START, chatter, or accepted with the candidate moved only. -/
theorem indexEdgesAreTimed : Obligations.IndexEdgesAreTimed := by
  intro s now ms r hr hms
  refine ⟨fun hmode => takes_of_kept rfl hr (takeEdge_start hmode), fun hmode e hedge hsoon =>
    takes_of_kept rfl hr (takeEdge_chatter hmode hms hedge hsoon), fun hmode hh hdue q hq => ?_⟩
  have hrows : advanceRows (accepted ms r) = advanceCandidate (accepted ms r) := by
    unfold advanceRows; rw [show (accepted ms r).tracker.h = none from hh]
  have htaken := takeEdge_accepted hmode hms hdue
  obtain ⟨-, -, -, hcontrol, -⟩ := accepted_leaves ms r
  by_cases hseek : r.control.mode = .seek
  · rw [hrows, advanceCandidate_seek (hcontrol ▸ hseek), accepted_written hq] at htaken
    subst hq
    rw [if_pos hseek]
    exact takes_of_kept rfl hr htaken
  · rw [hrows, advanceCandidate_other (hcontrol ▸ hseek), accepted_written hq] at htaken
    subst hq
    rw [if_neg hseek]
    exact takes_of_kept rfl hr htaken

end Sys2Proof.Machine.IndexEdges
end

section
/-! An accepted index that finds the platen OPEN or in SETTLE (O40, R34 to R37, R113, R114, R130, R146), and what a head row concluded
by an index leaves. -/

namespace Sys2Proof.Machine.IndexEdges

open Outcomes Joining Concluding DryCycles Flushes SettleEnds PlatenTimers

/-! ## A head row concluded (R37, R149) -/

section

variable {pt : ConclusionPoint} {p : Part} {row : RowRecord} {rest : List RowRecord}

theorem concludeHead_done (hrecords : p.tracker.records = row :: rest) (hdone : row.concluded = true) : concludeHead pt p = p := by
  unfold concludeHead headRecord; rw [hrecords]; exact if_pos hdone

theorem concludeHead_empty (hrecords : p.tracker.records = []) : concludeHead pt p = p := by
  unfold concludeHead headRecord; rw [hrecords]; rfl

theorem concludeHead_unconcluded (hrecords : p.tracker.records = row :: rest) (hopen : row.concluded = false) :
    concludeHead pt p =
      countUnder (concludeRecord pt p row).lanes
        (countRow (judgedByPlan pt row) (concludeRecord pt p row).lanes (entered pt p row rest)) := by
  rw [← concludeWith_eq hrecords]
  unfold concludeHead headRecord; rw [hrecords]; exact if_neg (Bool.eq_false_iff.mp hopen)

theorem entered_open (hclosed : closeWasCommanded pt p row = false) :
    entered pt p row rest =
      { reported pt p row with tracker := { p.tracker with records := concludeRecord pt p row :: rest } } := by
  unfold entered; rw [hclosed]; rfl

theorem entered_closed (hclosed : closeWasCommanded pt p row = true) :
    entered pt p row rest =
      logCycle row.tag false p.dose.cut (forcedPoint pt)
        { reported pt p row with tracker := { p.tracker with records := concludeRecord pt p row :: rest } } := by
  unfold entered; rw [hclosed]; rfl

theorem entered_tracker :
    ∃ mark, (entered pt p row rest).tracker =
      { p.tracker with records := concludeRecord pt p row :: rest, chatter := mark } := by
  cases hclosed : closeWasCommanded pt p row with
  | false => rw [entered_open hclosed]; exact ⟨_, rfl⟩
  | true => rw [entered_closed hclosed, logCycle_eq]; exact ⟨_, rfl⟩

theorem entered_port : (entered pt p row rest).port = (reported pt p row).port := by
  cases hclosed : closeWasCommanded pt p row with
  | false => rw [entered_open hclosed]
  | true => rw [entered_closed hclosed, logCycle_eq]

/-- What the conclusion of an unconcluded head row leaves in records, port and log. -/
theorem concludeHead_gives (hrecords : p.tracker.records = row :: rest) (hopen : row.concluded = false) :
    (concludeHead pt p).tracker.records = concludeRecord pt p row :: rest ∧
      (concludeHead pt p).port = (reported pt p row).port ∧ (concludeHead pt p).log = (entered pt p row rest).log := by
  rw [concludeHead_unconcluded hrecords hopen]
  obtain ⟨ctracker, cport, -, -, clog, -, -⟩ := countRow_gives (judgedByPlan pt row) (concludeRecord pt p row).lanes
    (entered pt p row rest)
  obtain ⟨utracker, uport, -, ulog, -, -⟩ := countUnder_gives (concludeRecord pt p row).lanes
    (countRow (judgedByPlan pt row) (concludeRecord pt p row).lanes (entered pt p row rest))
  obtain ⟨mark, htracker⟩ := entered_tracker (pt := pt) (p := p) (row := row) (rest := rest)
  exact ⟨by rw [utracker, ctracker, htracker], uport.trans (cport.trans entered_port), ulog.trans clog⟩

/-- A conclusion changes the head record of the tracker, and the chatter mark. -/
theorem concludeHead_tracker (pt : ConclusionPoint) (p : Part) :
    ∃ rs mark, (concludeHead pt p).tracker = { p.tracker with records := rs, chatter := mark } ∧
      rs.drop 1 = p.tracker.records.drop 1 := by
  match hrecords : p.tracker.records with
  | [] => exact ⟨p.tracker.records, p.tracker.chatter, by rw [concludeHead_empty hrecords], by rw [hrecords]⟩
  | row :: rest =>
    by_cases hdone : row.concluded = true
    · exact ⟨p.tracker.records, p.tracker.chatter, by rw [concludeHead_done hrecords hdone], by rw [hrecords]⟩
    · obtain ⟨mark, htracker⟩ := entered_tracker (pt := pt) (p := p) (row := row) (rest := rest)
      refine ⟨concludeRecord pt p row :: rest, mark, ?_, rfl⟩
      rw [concludeHead_unconcluded hrecords (Bool.eq_false_iff.mpr hdone), (countUnder_gives _ _).1, (countRow_gives _ _ _).1, htracker]

/-- The report of a row whose lanes are all skipped (R37, R150). -/
theorem sealReportOf_skipped (hskipped : judgedByPlan pt row = false) :
    sealReportOf pt p (concludeRecord pt p row) =
      { tag := row.tag, stage := (cfg p).stage, final := (cfg p).stage == (cfg p).stages, noContact := false,
        forced := forcedPoint pt, drift := false,
        lanes :=
          row.lanes.map
            (fun e =>
              { dose := 0, verdict := .skipped, reason := unfrozenReason pt, assumed := e.assumed, voided := e.voided,
                sensor := e.sensor }) } := by
  have hopen : closeWasCommanded pt p row = false := by unfold closeWasCommanded; rw [hskipped]; rfl
  have hlanes : (concludeRecord pt p row).lanes = row.lanes.map (skipLane (unfrozenReason pt)) := by
    unfold concludeRecord; rw [hskipped]; rfl
  unfold sealReportOf
  rw [closeWasCommanded_done, hopen, hlanes, List.map_map]
  rfl

end

/-! ## The chatter mark cleared before or after (R29) -/

section

variable {pt : ConclusionPoint} {p : Part}

theorem blind_clearChatter : Blind clearChatter := by constructor <;> intros <;> rfl

theorem raiseIf_clearChatter (b : Bool) (a : Alarm) (p : Part) : raiseIf b a (clearChatter p) = clearChatter (raiseIf b a p) := by
  cases b <;> rfl

theorem countUnder_clearChatter (lanes : List LaneEntry) (p : Part) :
    countUnder lanes (clearChatter p) = clearChatter (countUnder lanes p) := by
  unfold countUnder
  rw [cfg_congr (clearChatter_loader p), clearChatter_dose]
  split
  · dsimp only
    generalize (if lanes.any (fun e => e.verdict == .under) then min 3 (p.dose.underCount + 1) else 0) = n
    exact raiseIf_clearChatter (decide (n = 3)) .underRun { p with dose := { p.dose with underCount := n } }
  · rfl

/-- Where no close was commanded a conclusion adds no entry, which alone would read the chatter mark. -/
theorem concludeHead_clearChatter (hopen : p.dose.closeCommanded = false) :
    concludeHead pt (clearChatter p) = clearChatter (concludeHead pt p) := by
  match hrecords : p.tracker.records with
  | [] => rw [concludeHead_empty hrecords, concludeHead_empty (p := clearChatter p) hrecords]
  | row :: rest =>
    by_cases hdone : row.concluded = true
    · rw [concludeHead_done hrecords hdone, concludeHead_done (p := clearChatter p) hrecords hdone]
    · have hnone : closeWasCommanded pt p row = false := by simp [closeWasCommanded, hopen]
      have hentered : entered pt (clearChatter p) row rest = clearChatter (entered pt p row rest) := by
        rw [entered_open hnone, entered_open (p := clearChatter p) hnone]
        exact congrArg
          (fun q : Part =>
            { q with tracker := { p.tracker with records := concludeRecord pt p row :: rest, chatter := false } })
          (send_blind blind_clearChatter p (.sealReport (sealReportOf pt p (concludeRecord pt p row))))
      rw [concludeHead_unconcluded hrecords (Bool.eq_false_iff.mpr hdone),
        concludeHead_unconcluded (p := clearChatter p) hrecords (Bool.eq_false_iff.mpr hdone), hentered, ← countUnder_clearChatter]
      rw [countRow_eq, countRow_eq]; rfl

theorem freezeHead_clearChatter (p : Part) : freezeHead (clearChatter p) = clearChatter (freezeHead p) := by
  unfold freezeHead updateHead withRecords
  rw [clearChatter_records]
  cases p.tracker.records <;> rfl

theorem settleRow_clearChatter (p : Part) : settleRow (clearChatter p) = clearChatter (settleRow p) := by
  unfold settleRow
  rw [freezeHead_clearChatter]
  generalize freezeHead p = q
  dsimp only
  rw [show headRecord (clearChatter q) = headRecord q from rfl]
  split
  · rfl
  · split
    · rfl
    · exact congrArg backToOpen (concludeHead_clearChatter (p := noClose q) rfl)

/-- A dry cycle cut in OPEN or SETTLE adds no entry. -/
theorem abortDry_clearChatter (hmode : p.control.mode = .dry)
    (hplaten : p.sequencer.platen = .opened ∨ p.sequencer.platen = .settle) :
    abortDry false (clearChatter p) = clearChatter (abortDry false p) := by
  have hcut : cutIfDry false (clearChatter p) = clearChatter (cutIfDry false p) := by
    by_cases hdry : p.sequencer.dry = none
    · rw [cutIfDry_none false hdry, cutIfDry_none (p := clearChatter p) false hdry]
    · rcases hplaten with hopened | hsettle
      · rw [cutIfDry_some false hdry, cutIfDry_some (p := clearChatter p) false hdry, cutDry_opened false hopened,
          cutDry_opened (p := clearChatter p) false hopened]
        rfl
      · rw [cutIfDry_settle false hdry hsettle, cutIfDry_settle (p := clearChatter p) false hdry hsettle]; rfl
  rw [abortDry_eq false hmode, abortDry_eq (p := clearChatter p) false hmode, hcut]
  rfl

/-- The platen does not arrive where a dry abort finds it in OPEN or SETTLE. -/
theorem abortDry_platen (hmode : p.control.mode = .dry)
    (hplaten : p.sequencer.platen = .opened ∨ p.sequencer.platen = .settle) :
    (abortDry false p).sequencer.platen ≠ .opening := by
  rw [abortDry_eq false hmode]
  have haway : p.sequencer.platen ≠ .opening := by rcases hplaten with h | h <;> rw [h] <;> exact Platen.noConfusion
  by_cases hdry : p.sequencer.dry = none
  · rw [cutIfDry_none false hdry]; exact haway
  · rcases hplaten with hopened | hsettle
    · rw [cutIfDry_some false hdry, cutDry_opened false hopened]; exact haway
    · rw [cutIfDry_settle false hdry hsettle]; exact Platen.noConfusion

theorem settleRow_platen (p : Part) : (settleRow p).sequencer.platen ≠ .opening := by
  unfold settleRow
  dsimp only
  split
  · exact Platen.noConfusion
  · split <;> exact Platen.noConfusion

end

/-! ## The steps of R36 with the platen OPEN or in SETTLE -/

section

variable {u : Part} {head : Tag}

/-- A row's settle begun, its end still to come (R114). -/
def settleBegun (p : Part) : Part :=
  { p with sequencer := { p.sequencer with platen := .settle, settleTimer := some (cfg p).settle } }

theorem beginSettle_eq (p : Part) :
    beginSettle p = if (cfg p).settle = 0 then settleRow (settleBegun p) else settleBegun p := rfl

/-- A settle that begins at an index whose chatter mark is cleared behind it (R29). -/
theorem beginSettle_clearChatter (p : Part) :
    clearChatter (beginSettle p) =
      if (cfg p).settle = 0 then settleRow (clearChatter (settleBegun p)) else clearChatter (settleBegun p) := by
  rw [beginSettle_eq, settleRow_clearChatter, apply_ite clearChatter]

theorem platenAway_false_iff (m : Platen) : platenAway m = false ↔ m = .opened ∨ m = .settle := by cases m <;> simp [platenAway]

/-- The queue advanced past the head concluded at the point of the index. -/
def advancedPast (head : Tag) (pt : ConclusionPoint) (u : Part) : Part := advanceQueue head (concludeHead pt u)

theorem advanceRows_held (hh : u.tracker.h = some head) :
    advanceRows u = tellSequencer (advancedPast head (indexPoint u) u) := by
  unfold advanceRows; rw [hh]; rfl

theorem indexPoint_near (hnear : platenAway u.sequencer.platen = false) :
    indexPoint u = .retired (if u.control.mode = .run then .missed else .station) := by
  unfold indexPoint; rw [hnear]; split
  · contradiction
  · split <;> rfl

theorem tellSequencer_near (hnear : platenAway u.sequencer.platen = false) :
    tellSequencer u =
      match u.control.mode with
      | .run => beginSettle u
      | .dry => abortDry false u
      | _ => backToOpen u := by
  unfold tellSequencer; rw [hnear]; rfl

theorem tellSequencer_other (hnear : platenAway u.sequencer.platen = false) (hrun : u.control.mode ≠ .run)
    (hdry : u.control.mode ≠ .dry) : tellSequencer u = backToOpen u := by
  rw [tellSequencer_near hnear]; split
  · contradiction
  · contradiction
  · rfl

end

/-- Settles O40: the head retired, the queue advanced, and the sequencer told by the mode. -/
theorem acceptedIndexAdvancesTheQueue : Obligations.AcceptedIndexAdvancesTheQueue := by
  intro s now ms r q u v x head reason hr hms hmode hh hdue hplaten hreason hq hu hv hx
  replace hu : u = accepted ms r := hu.trans (accepted_written hq).symm
  obtain ⟨-, hsequencer, -, hcontrol, -, -, hloader, -, hheld, hrecords⟩ := accepted_leaves ms r
  rw [← hu] at hsequencer hcontrol hloader hheld hrecords
  have hnear : platenAway u.sequencer.platen = false := (platenAway_false_iff _).mpr (hsequencer ▸ hplaten)
  have hpoint : indexPoint u = .retired reason := by rw [indexPoint_near hnear, hcontrol, hreason]
  have hcfg : cfg v = cfg r := cfg_congr (by rw [hv, concludeHead_loader, hloader])
  replace hx : x = clearChatter (advanceQueue head v) := by
    rw [hx]; unfold advanceQueue; rw [hcfg]; rfl
  have hxseq : (advanceQueue head v).sequencer = r.sequencer := by rw [advanceQueue_sequencer, hv, concludeHead_sequencer, hsequencer]
  have hxmode : (advanceQueue head v).control.mode = r.control.mode := by rw [advanceQueue_control, hv, concludeHead_mode, hcontrol]
  have hxcfg : cfg (advanceQueue head v) = cfg r := (cfg_congr (advanceQueue_loader _ _)).trans hcfg
  have htaken : takeEdge now r = clearChatter (tellSequencer (advanceQueue head v)) := by
    rw [takeEdge_accepted hmode hms hdue, ← hu, advanceRows_held (hheld.trans hh), hpoint, hv]; rfl
  have hxnear : platenAway (advanceQueue head v).sequencer.platen = false := by rw [hxseq, ← hsequencer]; exact hnear
  refine ⟨fun hrun y hy => ?run, fun hrun hdry => ?other, fun hdry => ?dry, ?tail,
    fun row rest hrow => ⟨fun hdone => ?done, fun hopen => ?skipped⟩⟩
  case run =>
    replace hy : y = clearChatter (settleBegun (advanceQueue head v)) := by
      rw [hy, hx]; unfold settleBegun; rw [hxseq, hxcfg]; rfl
    have htold : tellSequencer (advanceQueue head v) = beginSettle (advanceQueue head v) := by
      rw [tellSequencer_near hxnear, hxmode, hrun]
    refine takes_of_away rfl hr (htaken.trans ?_) ?_
    · rw [htold, beginSettle_clearChatter, hxcfg, hy]
    · split
      · exact settleRow_platen y
      · rw [hy]; exact Platen.noConfusion
  case other =>
    refine takes_of_away rfl hr (htaken.trans ?_) Platen.noConfusion
    rw [tellSequencer_other hxnear (hxmode ▸ hrun) (hxmode ▸ hdry), hx, ← hxseq]; rfl
  case dry =>
    have hclear := abortDry_clearChatter (hxmode.trans hdry) (hxseq ▸ hplaten)
    rw [← hx] at hclear
    have htold : tellSequencer (advanceQueue head v) = abortDry false (advanceQueue head v) := by
      rw [tellSequencer_near hxnear, hxmode, hdry]
    rw [htold, ← hclear] at htaken
    refine takes_of_away rfl hr htaken (abortDry_platen ?_ ?_)
    · rw [hx]; exact hxmode.trans hdry
    · rw [hx, clearChatter_sequencer, hxseq]; exact hplaten
  case tail =>
    obtain ⟨rs, mark, htracker, hdrop⟩ := concludeHead_tracker (.retired reason) u
    rw [hv, htracker, ← hrecords]; exact hdrop
  case done => rw [hv]; exact concludeHead_done (hrecords.trans hrow) hdone
  case skipped =>
    rw [hv, (concludeHead_gives (hrecords.trans hrow) hopen).2.1, ← cfg_congr hloader]
    unfold reported
    rw [sealReportOf_skipped rfl]; rfl

end Sys2Proof.Machine.IndexEdges
end

section
/-! The forced index (O41, R36, R37, R125, R130, R159, R164, R165): the head concluded, a dry cycle cut, the open command, the fault. -/

namespace Sys2Proof.Machine.IndexEdges

open Outcomes Joining Concluding DryCycles Flushes SettleEnds PlatenTimers

/-! ## A raised flag stays (R167) -/

section

variable {a : Alarm} {p : Part}

theorem alarmSet_raised (a : Alarm) (p : Part) : alarmSet a (raise a p) = true := by
  have hbit : (alarmWord a).getLsbD (alarmBit a) = true := by cases a <;> decide
  unfold alarmSet raise
  rw [BitVec.getLsbD_or, hbit, Bool.or_true]

theorem alarmSet_raise (b : Alarm) (h : alarmSet a p = true) : alarmSet a (raise b p) = true := by
  unfold alarmSet at h
  unfold alarmSet raise
  rw [BitVec.getLsbD_or, h, Bool.true_or]

theorem alarmSet_congr {q : Part} (hcontrol : q.control.alarms = p.control.alarms) (h : alarmSet a p = true) :
    alarmSet a q = true := by
  unfold alarmSet at h ⊢; rw [hcontrol]; exact h

theorem alarmSet_joinQueue (f : TxFrame) (h : alarmSet a p = true) : alarmSet a (joinQueue f p) = true := by
  unfold joinQueue
  split
  · split <;> split <;> exact h
  · split
    · exact h
    · dsimp only
      split
      · exact alarmSet_raise (p := count _ _) _ h
      · exact alarmSet_raise (p := count _ _) _ h

theorem alarmSet_send (b : FrameBody) (h : alarmSet a p = true) : alarmSet a (send b p) = true := by
  refine alarmSet_congr ?_ (alarmSet_joinQueue (buildFrame b p) h)
  unfold send join tryBegin
  split <;> rfl

theorem alarmSet_endDry (aborted forced : Bool) (h : alarmSet a p = true) : alarmSet a (endDry aborted forced p) = true := by
  cases hdry : p.sequencer.dry with
  | none => rw [endDry_of_none hdry]; exact h
  | some cycle =>
    rw [endDry_of_some hdry]
    split
    · rw [logCycle_eq]
      show alarmSet a (raiseIf _ .logOverflow (offCycle p)) = true
      unfold raiseIf
      split
      · exact alarmSet_raise (p := offCycle p) _ h
      · exact h
    · exact h

end

/-! ## A fault that finds the platen in OPENING (R126, R164, R165) -/

section

variable {p : Part}

/-- In OPENING the entry to FAULT only ends a dry cycle. -/
theorem faultSequencer_opened (hopening : p.sequencer.platen = .opening) :
    faultSequencer p = if p.sequencer.dry.isSome then endDry true false p else p := by
  by_cases hdry : p.sequencer.dry = none
  · rw [faultSequencer_other hdry (by rw [hopening]; rfl), hdry]; rfl
  · rw [faultSequencer_dry hdry, cutDry_opening false hopening, if_pos (Option.isSome_iff_ne_none.mpr hdry)]

theorem faultSequencer_stays (hopening : p.sequencer.platen = .opening) :
    (faultSequencer p).sequencer = { p.sequencer with dry := none } ∧ (faultSequencer p).dose = p.dose := by
  by_cases hdry : p.sequencer.dry = none
  · rw [faultSequencer_other hdry (by rw [hopening]; rfl)]; exact ⟨by rw [← hdry], rfl⟩
  · rw [faultSequencer_dry hdry, cutDry_opening false hopening]; exact ⟨endDry_sequencer _ _ _, endDry_dose _ _ _⟩

theorem alarmSet_faultSequencer {a : Alarm} (hopening : p.sequencer.platen = .opening) (h : alarmSet a p = true) :
    alarmSet a (faultSequencer p) = true := by
  rw [faultSequencer_opened hopening]
  split
  · exact alarmSet_endDry _ _ h
  · exact h

/-- What a fault in OPENING leaves of the platen's timers, the dose, the flags and the tracker. -/
theorem takeFault_stays {a : Alarm} (code : Nat) (hopening : p.sequencer.platen = .opening) (halarm : alarmSet a p = true) :
    (takeFault code p).sequencer.platen = .opening ∧
      (takeFault code p).sequencer.openTimer = p.sequencer.openTimer ∧
      (takeFault code p).sequencer.closeTimer = p.sequencer.closeTimer ∧ (takeFault code p).dose = p.dose ∧
      (takeFault code p).tracker = { p.tracker with chatter := (takeFault code p).tracker.chatter } ∧
      alarmSet a (takeFault code p) = true ∧ (p.sequencer.dry = none → (takeFault code p).log = p.log) := by
  by_cases hmode : p.control.mode = .fault
  · rw [takeFault_further code hmode]; exact ⟨hopening, rfl, rfl, rfl, rfl, halarm, fun _ => rfl⟩
  · rw [takeFault_first code hmode]
    have hsequencer := faultEntered_sequencer code p
    have hstays : (faultEntered code p).sequencer.platen = .opening := by rw [hsequencer]; exact hopening
    have htracker : (faultEntered code p).tracker = p.tracker := send_tracker _ _
    have hdose : (faultEntered code p).dose = p.dose := send_dose _ _
    have hlog : (faultEntered code p).log = p.log := send_log _ _
    have hraised : alarmSet a (faultEntered code p) = true := alarmSet_send (p := setMode .fault
      { p with control := { p.control with fault := firstFault code p.tracker } }) (.lineStop .fault) halarm
    obtain ⟨hkept, hkeptDose⟩ := faultSequencer_stays hstays
    refine ⟨by rw [hkept]; exact hstays, by rw [hkept, hsequencer], by rw [hkept, hsequencer], hkeptDose.trans hdose, ?_,
      alarmSet_faultSequencer hstays hraised, fun hdry => ?_⟩
    · rw [(faultSequencer_opening hstays).2, htracker]
    · rw [((faultSequencer_kept _).2.2 (by rw [hsequencer]; exact hdry)).1, hlog]

/-- A first fault ends DRY and leaves its record and its notice (R159, R165). -/
theorem takeFault_entering (code : Nat) (hmode : p.control.mode ≠ .fault) :
    (takeFault code p).control.mode = .fault ∧ (takeFault code p).control.fault = firstFault code p.tracker ∧
      (takeFault code p).sequencer.dry = none ∧ (takeFault code p).sequencer.dryTimer = none ∧
      (takeFault code p).port = (send (.lineStop .fault) p).port := by
  rw [takeFault_first code hmode]
  obtain ⟨hdry, htimer, -⟩ := faultSequencer_dryEnded (faultEntered code p)
  refine ⟨?_, ?_, hdry, by rw [htimer, faultEntered_sequencer], ?_⟩
  · rw [faultSequencer_mode]; exact send_mode _ _
  · rw [faultSequencer_fault]; exact send_fault _ _
  · rw [faultSequencer_port]; exact send_port_congr _ rfl rfl rfl

end

/-! ## The sequencer's part (R125, R130) -/

/-- The dry cycle that an index cuts, in DRY. -/
def cutByIndex (x : Part) : Part := if x.control.mode = .dry then abortDry true x else x

section

variable {x : Part}

theorem platenAway_iff (m : Platen) : platenAway m = true ↔ m ≠ .opened ∧ m ≠ .settle := by cases m <;> simp [platenAway]

theorem platenAway_cases {m : Platen} (haway : platenAway m = true) : (m = .closing ∨ m = .dwell) ∨ m = .opening := by
  cases m <;> simp_all [platenAway]

theorem openIfClosed_closing (hclosing : x.sequencer.platen = .closing ∨ x.sequencer.platen = .dwell) :
    openIfClosed x = openCommand x := by
  unfold openIfClosed; rcases hclosing with h | h <;> rw [h]

theorem openIfClosed_opening (hopening : x.sequencer.platen = .opening) : openIfClosed x = x := by
  unfold openIfClosed; rw [hopening]

theorem openIfClosed_leaves (x : Part) :
    (openIfClosed x).port = x.port ∧ (openIfClosed x).tracker = x.tracker ∧ (openIfClosed x).sampling = x.sampling ∧
      (openIfClosed x).control = x.control ∧ (openIfClosed x).log = x.log ∧ (openIfClosed x).responder = x.responder ∧
      (openIfClosed x).loader = x.loader ∧ (openIfClosed x).pins = x.pins ∧
      (openIfClosed x).sequencer.dry = x.sequencer.dry := by
  unfold openIfClosed; split <;> simp [openCommand_sequencer]

theorem cutByIndex_leaves (x : Part) :
    (cutByIndex x).port = x.port ∧ (cutByIndex x).sampling = x.sampling ∧ (cutByIndex x).responder = x.responder ∧
      (cutByIndex x).loader = x.loader ∧ (cutByIndex x).pins = x.pins ∧
      (cutByIndex x).tracker = { x.tracker with chatter := (cutByIndex x).tracker.chatter } ∧
      (cutByIndex x).control.lineStop = x.control.lineStop ∧
      (cutByIndex x).control.operatorHold = x.control.operatorHold ∧ (cutByIndex x).control.fault = x.control.fault ∧
      ((cutByIndex x).control.mode = .fault ↔ x.control.mode = .fault) := by
  unfold cutByIndex
  split
  · next hdry =>
    have htracker : (abortDry true x).tracker = { x.tracker with chatter := (abortDry true x).tracker.chatter } := by
      obtain ⟨-, -, -, -, -, -, htracker, -⟩ := cutIfDry_leaves true x
      rw [abortDry_eq true hdry]; exact htracker
    have hmode : (abortDry true x).control.mode = .hold := by rw [abortDry_eq true hdry]
    refine ⟨abortDry_port _ _, abortDry_sampling _ _, abortDry_responder _ _, abortDry_loader _ _, abortDry_pins _ _, htracker,
      abortDry_lineStop _ _, abortDry_operatorHold _ _, abortDry_fault _ _, ?_⟩
    rw [hmode, hdry]; simp
  · exact ⟨rfl, rfl, rfl, rfl, rfl, rfl, rfl, rfl, rfl, Iff.rfl⟩

/-- The platen after the open command that a forced index stands behind. -/
theorem openedByIndex (haway : platenAway x.sequencer.platen = true) :
    (openIfClosed (cutByIndex x)).sequencer.platen = .opening ∧
      (x.sequencer.platen ≠ .opening →
        (openIfClosed (cutByIndex x)).sequencer.openTimer = some (cfg x).openTimeout ∧
          (openIfClosed (cutByIndex x)).sequencer.closeTimer = none ∧
          ∀ l ∈ (openIfClosed (cutByIndex x)).dose.lanes, l.contact = .ended) ∧
      (x.sequencer.platen = .opening →
        (openIfClosed (cutByIndex x)).sequencer.openTimer = x.sequencer.openTimer) := by
  by_cases hcut : x.control.mode = .dry ∧ x.sequencer.dry ≠ none
  · obtain ⟨hmode, hdry⟩ := hcut
    have habort : cutByIndex x = abortDry true x := if_pos hmode
    rcases platenAway_cases haway with hclosing | hopening
    · obtain ⟨hsequencer, hdose, -⟩ := cutIfDry_closing true hdry hclosing
      have hplaten : (abortDry true x).sequencer.platen = .opening := by rw [abortDry_eq true hmode, hsequencer]
      rw [habort, openIfClosed_opening hplaten]
      have hended : ∀ l ∈ (abortDry true x).dose.lanes, l.contact = .ended := by
        rw [abortDry_eq true hmode]
        show ∀ l ∈ (cutIfDry true x).dose.lanes, l.contact = .ended
        rw [hdose]; exact openCommand_ended x
      refine ⟨hplaten, fun _ => ⟨?_, ?_, hended⟩, fun h => ?_⟩
      · rw [abortDry_eq true hmode, hsequencer]
      · rw [abortDry_eq true hmode, hsequencer]
      · rcases hclosing with hc | hc <;> rw [hc] at h <;> exact Platen.noConfusion h
    · obtain ⟨hsequencer, -, -⟩ := cutIfDry_opening true hdry hopening
      have hplaten : (abortDry true x).sequencer.platen = .opening := by rw [abortDry_eq true hmode, hsequencer]; exact hopening
      rw [habort, openIfClosed_opening hplaten]
      exact ⟨hplaten, fun h => absurd hopening h, fun _ => by rw [abortDry_eq true hmode, hsequencer]⟩
  · have hkept : (cutByIndex x).sequencer.platen = x.sequencer.platen ∧
        (cutByIndex x).sequencer.openTimer = x.sequencer.openTimer ∧ cfg (cutByIndex x) = cfg x := by
      obtain ⟨-, -, -, hloader, -⟩ := cutByIndex_leaves x
      refine ⟨?_, ?_, cfg_congr hloader⟩ <;> unfold cutByIndex <;> split
      · next hmode => rw [abortDry_eq true hmode, cutIfDry_none true (by_contra fun h => hcut ⟨hmode, h⟩)]
      · rfl
      · next hmode => rw [abortDry_eq true hmode, cutIfDry_none true (by_contra fun h => hcut ⟨hmode, h⟩)]
      · rfl
    obtain ⟨hplaten, htimer, hcfg⟩ := hkept
    rcases platenAway_cases haway with hclosing | hopening
    · rw [openIfClosed_closing (by rw [hplaten]; exact hclosing), openCommand_sequencer, hcfg]
      refine ⟨rfl, fun _ => ⟨rfl, rfl, openCommand_ended _⟩, fun h => ?_⟩
      rcases hclosing with hc | hc <;> rw [hc] at h <;> exact Platen.noConfusion h
    · rw [openIfClosed_opening (hplaten.trans hopening)]
      exact ⟨hplaten.trans hopening, fun h => absurd hopening h, fun _ => htimer⟩

/-- The log behind the cut: untouched without a dry cycle, else with the entry of the cycle cut. -/
theorem cutByIndex_log (hdry : x.sequencer.dry = none) :
    (cutByIndex x).log = x.log ∧ (cutByIndex x).sequencer.dry = none := by
  unfold cutByIndex
  split
  · next hmode => rw [abortDry_eq true hmode, cutIfDry_none true hdry]; exact ⟨rfl, hdry⟩
  · exact ⟨rfl, hdry⟩

theorem cutByIndex_entry {cycle : DryCycle} {y : LogEntry} (hmode : x.control.mode = .dry) (hdry : x.sequencer.dry = some cycle)
    (haway : platenAway x.sequencer.platen = true) (hy : EntryIs y x cycle.tag true true true) :
    (cutByIndex x).sequencer.dry = none ∧ (cycle.logged = true → (cutByIndex x).log = x.log) ∧
      (cycle.logged = false → LoggedIn (cutByIndex x).log y x) := by
  have habort : cutByIndex x = abortDry true x := if_pos hmode
  obtain ⟨hlogged, hentered⟩ := cutIfDry_entry hdry (or_assoc.mp (platenAway_cases haway)) hy
  rw [habort, abortDry_eq true hmode]
  refine ⟨?_, fun h => (hlogged h).1, fun h => (hentered h).1⟩
  dsimp only
  rw [cutIfDry_some true (by rw [hdry]; exact Option.some_ne_none _)]
  exact cutDry_dry true x

end

/-! ## The forced index as a whole (R125, R130, R164, R165) -/

section

variable {x : Part}

/-- The part whose fault a forced index hands over: the cycle cut, the open command standing, FORCED_INDEX raised. -/
def beforeFault (x : Part) : Part := raise .forcedIndex (openIfClosed (cutByIndex x))

theorem forcedIndex_eq (x : Part) : forcedIndex x = takeFault 2 (beforeFault x) := rfl

theorem beforeFault_tracker (x : Part) :
    (beforeFault x).tracker = { x.tracker with chatter := (cutByIndex x).tracker.chatter } := by
  obtain ⟨-, -, -, -, -, htracker, -⟩ := cutByIndex_leaves x
  obtain ⟨-, hkept, -⟩ := openIfClosed_leaves (cutByIndex x)
  exact hkept.trans htracker

theorem beforeFault_mode (x : Part) : (beforeFault x).control.mode = .fault ↔ x.control.mode = .fault := by
  obtain ⟨-, -, -, -, -, -, -, -, -, hmode⟩ := cutByIndex_leaves x
  obtain ⟨-, -, -, hcontrol, -⟩ := openIfClosed_leaves (cutByIndex x)
  unfold beforeFault; rw [raise_mode, hcontrol]; exact hmode

theorem beforeFault_port (x : Part) : (beforeFault x).port = x.port :=
  (openIfClosed_leaves _).1.trans (cutByIndex_leaves x).1

theorem beforeFault_loader (x : Part) : (beforeFault x).loader = x.loader := by
  obtain ⟨-, -, -, hloader, -⟩ := cutByIndex_leaves x
  obtain ⟨-, -, -, -, -, -, oloader, -⟩ := openIfClosed_leaves (cutByIndex x)
  exact oloader.trans hloader

theorem beforeFault_log (x : Part) :
    (beforeFault x).log = (cutByIndex x).log ∧ (beforeFault x).sequencer.dry = (cutByIndex x).sequencer.dry := by
  obtain ⟨-, -, -, -, olog, -, -, -, odry⟩ := openIfClosed_leaves (cutByIndex x)
  exact ⟨olog, odry⟩

theorem forcedIndex_leaves (x : Part) :
    (forcedIndex x).control.lineStop = x.control.lineStop ∧ (forcedIndex x).control.operatorHold = x.control.operatorHold ∧
      (forcedIndex x).sampling = x.sampling ∧ (forcedIndex x).responder = x.responder ∧ (forcedIndex x).loader = x.loader ∧
      (forcedIndex x).pins = x.pins := by
  obtain ⟨-, csampling, cresponder, -, cpins, -, cline, chold, -, -⟩ := cutByIndex_leaves x
  obtain ⟨-, -, osampling, ocontrol, -, oresponder, -, opins, -⟩ := openIfClosed_leaves (cutByIndex x)
  rw [forcedIndex_eq, takeFault_lineStop, takeFault_operatorHold, takeFault_sampling, takeFault_responder, takeFault_loader,
    takeFault_pins]
  exact ⟨(congrArg ModeController.lineStop ocontrol).trans cline, (congrArg ModeController.operatorHold ocontrol).trans chold,
    osampling.trans csampling, oresponder.trans cresponder, beforeFault_loader x, opins.trans cpins⟩

variable (haway : platenAway x.sequencer.platen = true)
include haway

theorem forcedIndex_tracker :
    (forcedIndex x).tracker.h = x.tracker.h ∧ (forcedIndex x).tracker.records = x.tracker.records ∧
      (forcedIndex x).tracker.indexCount = x.tracker.indexCount ∧ (forcedIndex x).tracker.lastEdge = x.tracker.lastEdge := by
  obtain ⟨-, -, -, -, htracker, -, -⟩ := takeFault_stays (p := beforeFault x) 2 (openedByIndex haway).1 (alarmSet_raised .forcedIndex _)
  rw [forcedIndex_eq, htracker, beforeFault_tracker]
  exact ⟨rfl, rfl, rfl, rfl⟩

theorem forcedIndex_platen :
    (forcedIndex x).sequencer.platen = .opening ∧
      (x.sequencer.platen ≠ .opening →
        (forcedIndex x).sequencer.openTimer = some (cfg x).openTimeout ∧ (forcedIndex x).sequencer.closeTimer = none ∧
          ∀ l ∈ (forcedIndex x).dose.lanes, l.contact = .ended) ∧
      (x.sequencer.platen = .opening → (forcedIndex x).sequencer.openTimer = x.sequencer.openTimer) := by
  obtain ⟨hopening, hcommand, hstays⟩ := openedByIndex haway
  obtain ⟨hplaten, hopen, hclose, hdose, -, -, -⟩ :=
    takeFault_stays (p := beforeFault x) 2 hopening (alarmSet_raised .forcedIndex _)
  rw [forcedIndex_eq, hopen, hclose, hdose]
  exact ⟨hplaten, hcommand, hstays⟩

theorem forcedIndex_fault :
    (forcedIndex x).control.mode = .fault ∧ alarmSet .forcedIndex (forcedIndex x) = true ∧
      (x.control.mode ≠ .fault →
        (forcedIndex x).sequencer.dry = none ∧ (forcedIndex x).sequencer.dryTimer = none ∧
          (forcedIndex x).control.fault = { code := 2, h := x.tracker.h, count := x.tracker.indexCount, further := 0 }) ∧
      (x.control.mode = .fault →
        (forcedIndex x).control.fault = { x.control.fault with further := min 255 (x.control.fault.further + 1) }) ∧
      (forcedIndex x).port = (if x.control.mode = .fault then x.port else (send (.lineStop .fault) x).port) := by
  obtain ⟨-, -, -, -, -, halarm, -⟩ := takeFault_stays (p := beforeFault x) 2 (openedByIndex haway).1 (alarmSet_raised .forcedIndex _)
  refine ⟨(takeFault_opening (p := beforeFault x) 2 (openedByIndex haway).1).1, halarm, fun hmode => ?_, fun hmode => ?_, ?_⟩
  · obtain ⟨-, hrecord, hdry, htimer, -⟩ := takeFault_entering (p := beforeFault x) 2 ((beforeFault_mode x).not.mpr hmode)
    refine ⟨hdry, htimer, hrecord.trans ?_⟩
    unfold firstFault; rw [beforeFault_tracker]
  · obtain ⟨-, -, -, -, -, -, -, -, hfault, -⟩ := cutByIndex_leaves x
    obtain ⟨-, -, -, hcontrol, -⟩ := openIfClosed_leaves (cutByIndex x)
    have hrecord : (beforeFault x).control.fault = x.control.fault := (congrArg ModeController.fault hcontrol).trans hfault
    rw [forcedIndex_eq, takeFault_further 2 ((beforeFault_mode x).mpr hmode)]
    dsimp only
    rw [hrecord]
  · rw [forcedIndex_eq]
    split
    · next hmode => rw [takeFault_further 2 ((beforeFault_mode x).mpr hmode)]; exact beforeFault_port x
    · next hmode =>
      obtain ⟨-, -, -, -, hport⟩ := takeFault_entering (p := beforeFault x) 2 ((beforeFault_mode x).not.mpr hmode)
      rw [hport]
      exact send_port_congr _ (beforeFault_port x) (by rw [beforeFault_tracker]) (beforeFault_loader x)

theorem forcedIndex_log :
    (x.sequencer.dry = none → (forcedIndex x).log = x.log) ∧
      ∀ {cycle : DryCycle} {y : LogEntry}, x.control.mode = .dry → x.sequencer.dry = some cycle →
        EntryIs y x cycle.tag true true true →
          (cycle.logged = true → (forcedIndex x).log = x.log) ∧ (cycle.logged = false → LoggedIn (forcedIndex x).log y x) := by
  obtain ⟨-, -, -, -, -, -, hkept⟩ := takeFault_stays (p := beforeFault x) 2 (openedByIndex haway).1 (alarmSet_raised .forcedIndex _)
  obtain ⟨hlog, hdry⟩ := beforeFault_log x
  rw [forcedIndex_eq]
  refine ⟨fun hnone => ?_, fun {cycle y} hmode hcycle hy => ?_⟩
  · obtain ⟨hcut, hended⟩ := cutByIndex_log hnone
    rw [hkept (hdry.trans hended), hlog, hcut]
  · obtain ⟨hended, hlogged, hentered⟩ := cutByIndex_entry hmode hcycle haway hy
    rw [hkept (hdry.trans hended), hlog]
    exact ⟨hlogged, hentered⟩

end

/-! ## The report of a frozen head (R37, R148, R150) -/

theorem sealReportOf_forced {p : Part} {row : RowRecord} (hfrozen : row.frozen = true) :
    sealReportOf .forcedIndex p (concludeRecord .forcedIndex p row) =
      { tag := row.tag, stage := (cfg p).stage, final := (cfg p).stage == (cfg p).stages,
        noContact := decide (p.dose.closeCommanded = true ∧ p.sequencer.dry = none ∧ p.dose.samples = 0), forced := true,
        drift := decide (p.dose.closeCommanded = true ∧ p.sequencer.dry = none ∧ p.dose.drift = true),
        lanes :=
          (concludeRecord .forcedIndex p row).lanes.map
            (fun e =>
              { dose := e.ownDose, verdict := e.verdict, reason := e.reason, assumed := e.assumed, voided := e.voided,
                sensor := e.sensor }) } := by
  have hclosed : closeWasCommanded .forcedIndex p row = decide (p.dose.closeCommanded = true ∧ p.sequencer.dry = none) := by
    rw [Bool.eq_iff_iff, closeWasCommanded_iff, decide_eq_true_iff]
    exact ⟨fun h => h.2, fun h => ⟨hfrozen, h⟩⟩
  have hnone : (closeWasCommanded .forcedIndex p row && p.dose.samples == 0) =
      decide (p.dose.closeCommanded = true ∧ p.sequencer.dry = none ∧ p.dose.samples = 0) := by
    rw [hclosed, Bool.eq_iff_iff]; simp [and_assoc]
  have hdrift : (closeWasCommanded .forcedIndex p row && p.dose.drift) =
      decide (p.dose.closeCommanded = true ∧ p.sequencer.dry = none ∧ p.dose.drift = true) := by
    rw [hclosed, Bool.eq_iff_iff]; simp [and_assoc]
  unfold sealReportOf
  rw [closeWasCommanded_done, hnone, hdrift]
  rfl

/-- Settles O41: the head concluded, the cycle cut, the open command, and the fault in OPENING. -/
theorem forcedIndexFaults : Obligations.ForcedIndexFaults := by
  intro s now ms r q u v x head hr hms hmode hh hdue hopened hsettle hq hu hv hx
  replace hu : u = accepted ms r := hu.trans (accepted_written hq).symm
  obtain ⟨husampling, husequencer, hudose, hucontrol, hulog, huresponder, huloader, hupins, huh, hurecords⟩ := accepted_leaves ms r
  rw [← hu] at husampling husequencer hudose hucontrol hulog huresponder huloader hupins huh hurecords
  refine ⟨?fault, fun row rest hrow => ?row⟩
  case fault =>
    have haway : platenAway r.sequencer.platen = true := (platenAway_iff _).mpr ⟨hopened, hsettle⟩
    have hpoint : indexPoint u = .forcedIndex := by unfold indexPoint; rw [husequencer]; exact if_pos haway
    have hvcfg : cfg v = cfg r := cfg_congr (by rw [hv, concludeHead_loader, huloader])
    replace hx : x = advanceQueue head v := by rw [hx]; unfold advanceQueue; rw [hvcfg]
    have hxlog : x.log = v.log := by rw [hx, advanceQueue_log]
    have hxloader : x.loader = r.loader := by rw [hx, advanceQueue_loader, hv, concludeHead_loader, huloader]
    have hxsequencer : x.sequencer = r.sequencer := by rw [hx, advanceQueue_sequencer, hv, concludeHead_sequencer, husequencer]
    have hxmode : x.control.mode = r.control.mode := by rw [hx, advanceQueue_control, hv, concludeHead_mode, hucontrol]
    have hxfault : x.control.fault = r.control.fault := by rw [hx, advanceQueue_control, hv, concludeHead_fault, hucontrol]
    have hxstop : x.control.lineStop = r.control.lineStop := by rw [hx, advanceQueue_control, hv, concludeHead_lineStop, hucontrol]
    have hxhold : x.control.operatorHold = r.control.operatorHold := by
      rw [hx, advanceQueue_control, hv, concludeHead_operatorHold, hucontrol]
    obtain ⟨rs, mark, hvtracker, hdrop⟩ := concludeHead_tracker .forcedIndex u
    have hxtracker : x.tracker =
        { u.tracker with
          h := some (head + 1), records := r.tracker.records.drop 1 ++ [freshRecord (cfg r) (head + 48)], chatter := mark } := by
      rw [hx]; unfold advanceQueue; rw [hvcfg, hv, hvtracker, ← hurecords, ← hdrop]
    have hxcount : x.tracker.indexCount = r.tracker.indexCount + 1 := by rw [hxtracker, hu]; rfl
    have hxedge : x.tracker.lastEdge = some ms := by rw [hxtracker, hu]; rfl
    have hxh : x.tracker.h = some (head + 1) := by rw [hxtracker]
    have htaken : takeEdge now r = clearChatter (forcedIndex x) := by
      rw [takeEdge_accepted hmode hms hdue, ← hu, advanceRows_held (huh.trans hh), hpoint, hx, hv]
      unfold tellSequencer advancedPast
      rw [advanceQueue_sequencer, concludeHead_sequencer, husequencer, haway]; rfl
    have hxaway : platenAway x.sequencer.platen = true := by rw [hxsequencer]; exact haway
    obtain ⟨fh, frecords, fcount, fedge⟩ := forcedIndex_tracker hxaway
    obtain ⟨fplaten, fcommand, fstays⟩ := forcedIndex_platen hxaway
    obtain ⟨fmode, falarm, ffirst, ffurther, fport⟩ := forcedIndex_fault hxaway
    obtain ⟨fnone, fentry⟩ := forcedIndex_log hxaway
    obtain ⟨fline, fhold, fsampling, fresponder, floader, fpins⟩ := forcedIndex_leaves x
    rw [hxsequencer] at fcommand fstays fnone fentry
    rw [hxmode] at ffirst ffurther fport fentry
    refine ⟨clearChatter (forcedIndex x), takes_of_run_finish rfl hr htaken, fmode, falarm, fh.trans hxh, fcount.trans hxcount,
      fedge.trans hxedge, ?records, fplaten, fun hfar => cfg_congr hxloader ▸ fcommand hfar, fstays, fun hm => ?first, fun hm => ?further,
      fport, fun hdry => (fnone hdry).trans hxlog, fun cycle y hm hdry hy => ?entry, fline.trans hxstop, fhold.trans hxhold, ?_, ?_,
      floader.trans hxloader, ?_⟩
    case records => rw [clearChatter_records, frecords, hxtracker]
    case first => rw [← hxh, ← hxcount]; exact ffirst hm
    case further => rw [← hxfault]; exact ffurther hm
    case entry =>
      obtain ⟨hlogged, hentered⟩ := fentry hm hdry hy
      exact ⟨fun h => (hlogged h).trans hxlog, fun h => loggedIn_congr hxlog (by rw [hx, advanceQueue_loader]) (hentered h)⟩
    · exact fsampling.trans (by rw [hx, advanceQueue_sampling, hv, concludeHead_sampling, husampling])
    · exact fresponder.trans (by rw [hx, advanceQueue_responder, hv, concludeHead_responder, huresponder])
    · exact fpins.trans (by rw [hx, advanceQueue_pins, hv, concludeHead_pins, hupins])
  case row =>
    have hurow : u.tracker.records = row :: rest := hurecords.trans hrow
    have hucfg : cfg u = cfg r := cfg_congr huloader
    have hopenLog (hopen : row.concluded = false) (hnone : closeWasCommanded .forcedIndex u row = false) : v.log = r.log := by
      rw [hv, (concludeHead_gives hurow hopen).2.2, entered_open hnone]
      exact (send_log _ _).trans hulog
    refine ⟨fun hdone => hv.trans (concludeHead_done hurow hdone), fun hopen hunfrozen => ?unfrozen,
      fun hopen hfrozen hclosed hdry y hy => ?logged, fun hopen hfrozen hnone => ?unlogged, fun hopen hfrozen => ?report⟩
    case unfrozen =>
      have hskipped : judgedByPlan .forcedIndex row = false := hunfrozen
      refine ⟨hopenLog hopen (by unfold closeWasCommanded; rw [hskipped]; rfl), ?_⟩
      rw [hv, (concludeHead_gives hurow hopen).2.1, ← hucfg]
      unfold reported
      rw [sealReportOf_skipped hskipped]; rfl
    case logged =>
      have hcommanded : closeWasCommanded .forcedIndex u row = true :=
        closeWasCommanded_iff.mpr ⟨hfrozen, by rw [hudose]; exact hclosed, by rw [husequencer]; exact hdry⟩
      obtain ⟨-, -, -, -, -, hlogged, -⟩ := entered_gives (rest := rest) (pt := .forcedIndex) (p := u) (row := row) (x := y)
        (by rw [hudose]; exact hy)
      rw [hcommanded] at hlogged
      rw [hv, (concludeHead_gives hurow hopen).2.2]
      exact hlogged
    case unlogged =>
      refine hopenLog hopen (Bool.eq_false_iff.mpr fun h => ?_)
      obtain ⟨-, hclosed, hdry⟩ := closeWasCommanded_iff.mp h
      rw [hudose] at hclosed
      rw [husequencer] at hdry
      rcases hnone with hopened | hcycle
      · rw [hopened] at hclosed; cases hclosed
      · exact hcycle hdry
    case report =>
      obtain ⟨hrecords, hport, -⟩ := concludeHead_gives (pt := .forcedIndex) hurow hopen
      refine ⟨concludeRecord .forcedIndex u row, hv ▸ hrecords, concludeRecord_length .forcedIndex u row, ?_⟩
      rw [hv, hport, ← hucfg, ← hudose, ← husequencer]
      unfold reported
      rw [sealReportOf_forced hfrozen]

end Sys2Proof.Machine.IndexEdges
end

section
/-! A sample tick in the cycle and in the sampling unit (R73 to R86, R117 to R119, R136 to R142): the channels one by one, the contact
test, the dwell sample lane by lane, the open command once every lane has ended. -/

namespace Sys2Proof.Machine.SampleTicks

open DryCycles CycleEvents

/-! ## The channels (R74 to R83) -/

section

variable {c : Configuration} {conv : Conversions} {z : Sampling}

theorem sampleUnit_check {x : RefCheck} (hcheck : z.check = some x) :
    sampleUnit c conv z =
      { z with
        check :=
          some
            { ticks := min 10 (x.ticks + 1), sum := x.sum + conv.reference.sum,
              count := x.count + conv.reference.length } } := by
  unfold sampleUnit; rw [hcheck]

theorem sampleUnit_channels (hcheck : z.check = none) :
    sampleUnit c conv z =
      { z with channels := sampleChannels c conv z.channels, pressure := pressureOf c (made c conv.pressure) } := by
  unfold sampleUnit; rw [hcheck]

theorem sampleUnit_drift : (sampleUnit c conv z).drift = z.drift := by
  unfold sampleUnit; split <;> rfl

theorem overheatAfter_iff {before : Bool} {n : Nat} :
    overheatAfter c before n = true ↔ if before then c.tlimit ≤ n + 40 else c.tlimit ≤ n := by
  cases before with
  | false => exact decide_eq_true_iff
  | true =>
    simp only [overheatAfter, if_true, decide_eq_true_iff]
    omega

variable {i n : Nat} {m : List Conversion} {x : Channel}

theorem sampleChannel_flagged (h : flagged m = true) : sampleChannel c i m x = { x with isOpen := true, recovery := 0 } := by
  unfold sampleChannel; exact if_pos h

theorem sampleChannel_recovering (h : flagged m = false) (hopen : x.isOpen = true) (hshort : x.recovery < 15) :
    sampleChannel c i m x = { x with recovery := x.recovery + 1 } := by
  unfold sampleChannel
  rw [if_neg (Bool.eq_false_iff.mp h), if_pos hopen, if_pos (by omega)]

theorem sampleChannel_taken (h : flagged m = false) (hread : x.isOpen = false ∨ 15 ≤ x.recovery) :
    sampleChannel c i m x = takeTemperature c i m x := by
  unfold sampleChannel
  rw [if_neg (Bool.eq_false_iff.mp h)]
  rcases hread with hclear | hlong
  · exact if_neg (Bool.eq_false_iff.mp hclear)
  · rw [if_neg (show ¬x.recovery + 1 < 16 by omega), ite_self]

end

/-! ## One lane at a dwell sample (R139 to R142, R152) -/

section

variable {lead sample inc : Nat} {row drift isOpen : Bool} {l : LaneDose}

theorem failLane_of (h : l.contact ≠ .ended) : failLane l = { l with contact := .ended, sensorEnd := true } := by
  unfold failLane; split
  · contradiction
  · rfl

theorem failLane_ended (h : l.contact = .ended) : failLane l = l := by
  unfold failLane; rw [h]

theorem sampleLane_ended (h : l.contact = .ended) : sampleLane lead row sample drift isOpen inc l = l := by
  unfold sampleLane; rw [h]

theorem sampleLane_open (h : l.contact ≠ .ended) :
    sampleLane lead row sample drift true inc l = { l with contact := .ended, sensorEnd := true } := by
  rw [← failLane_of h]
  unfold sampleLane; split
  · contradiction
  · rfl
  · rfl

theorem sampleLane_lag {n : Nat} (h : l.contact = .lag n) :
    sampleLane lead row sample drift false inc l = { addSample drift inc l with contact := .lag (n - 1) } := by
  unfold sampleLane; rw [h]; rfl

theorem sampleLane_lifts (h : l.contact = .inContact) (hrow : row = true)
    (haim : l.aim ≤ (addSample drift inc l).acc + lead * inc) :
    sampleLane lead row sample drift false inc l = liftLane lead sample (addSample drift inc l) := by
  have htest : (row && liftTest lead inc (addSample drift inc l)) = true := by rw [hrow]; exact decide_eq_true haim
  unfold sampleLane; rw [h]; exact if_pos htest

theorem sampleLane_stays (h : l.contact = .inContact)
    (hshort : row = false ∨ (addSample drift inc l).acc + lead * inc < l.aim) :
    sampleLane lead row sample drift false inc l = addSample drift inc l := by
  have htest : (row && liftTest lead inc (addSample drift inc l)) = false := by
    rcases hshort with hrow | haim
    · rw [hrow]; rfl
    · rw [show liftTest lead inc (addSample drift inc l) = false from decide_eq_false (Nat.not_le.mpr haim), Bool.and_false]
  unfold sampleLane; rw [h]; exact if_neg (Bool.eq_false_iff.mp htest)

end

/-! ## The tick in the cycle (R117 to R119) -/

section

variable {p : Part}

theorem belowPmin_not (p : Part) : (!belowPmin p) = decide ((cfg p).pmin ≤ p.sampling.pressure) := by
  unfold belowPmin; rw [← decide_not]; exact decide_eq_decide.mpr Nat.not_lt

theorem contactHolds_eq (p : Part) :
    contactHolds p = (p.pins.closedSensor && decide ((cfg p).pmin ≤ p.sampling.pressure)) := by
  unfold contactHolds; rw [belowPmin_not]

/-- The lanes after a tick, before the open command that it may bring. -/
def cycled (p : Part) : Part :=
  if p.sequencer.platen = .closing then if contactHolds p then dwellSample (enterDwell p) else failClosing p else dwellSample p

theorem cycleTick_idle (hclosing : p.sequencer.platen ≠ .closing) (hdwell : p.sequencer.platen ≠ .dwell) : cycleTick p = p := by
  unfold cycleTick; split
  · contradiction
  · contradiction
  · rfl

theorem cycleTick_cycled (h : p.sequencer.platen = .closing ∨ p.sequencer.platen = .dwell) :
    cycleTick p = openIfEnded (cycled p) := by
  unfold cycleTick cycled
  rcases h with h | h <;> rw [h]
  · rfl
  · rfl

/-- The open command ends no contact that has not ended: it is given once every lane has. -/
theorem openIfEnded_dose (z : Part) : (openIfEnded z).dose = z.dose := by
  unfold openIfEnded
  split
  · next h =>
    have hended := (allEnded_iff z.dose).mp (Bool.and_eq_true_iff.mp h).2
    have hlanes : z.dose.lanes.map (fun l => { l with contact := .ended }) = z.dose.lanes := by
      refine (List.map_congr_left fun l hl => ?_).trans (List.map_id _)
      rw [← hended l hl]; rfl
    rw [openCommand_dose, hlanes]
  · rfl

theorem openIfEnded_opens {z : Part} (hdry : z.sequencer.dry = none) (hended : ∀ l ∈ z.dose.lanes, l.contact = .ended) :
    openIfEnded z = openCommand z := by
  unfold openIfEnded
  exact if_pos (by rw [hdry, (allEnded_iff _).mpr hended]; rfl)

theorem openIfEnded_stays {z : Part} (h : ¬(z.sequencer.dry = none ∧ ∀ l ∈ z.dose.lanes, l.contact = .ended)) :
    openIfEnded z = z := by
  unfold openIfEnded
  refine if_neg fun hopen => h ?_
  obtain ⟨hdry, hended⟩ := Bool.and_eq_true_iff.mp hopen
  exact ⟨Option.isNone_iff_eq_none.mp hdry, (allEnded_iff _).mp hended⟩

theorem cycled_sequencer {contact : Bool} (hcontact : contact = contactHolds p) :
    (cycled p).sequencer =
      if p.sequencer.platen = .closing ∧ contact = true then
        { p.sequencer with platen := .dwell, closeTimer := none, closeTimeouts := 0 }
      else p.sequencer := by
  subst hcontact
  unfold cycled
  by_cases hclosing : p.sequencer.platen = .closing
  · cases hholds : contactHolds p with
    | true => exact (congrArg Part.sequencer (if_pos hclosing)).trans (if_pos ⟨hclosing, rfl⟩).symm
    | false => exact (congrArg Part.sequencer (if_pos hclosing)).trans (if_neg fun h => Bool.false_ne_true h.2).symm
  · exact (congrArg Part.sequencer (if_neg hclosing)).trans (if_neg fun h => hclosing h.1).symm

theorem cycled_loader (p : Part) : (cycled p).loader = p.loader := by
  unfold cycled; split
  · split <;> simp
  · simp

/-- In CLOSING without contact only the lanes of open channels change (R118, R142). -/
theorem cycled_failing (hclosing : p.sequencer.platen = .closing) (hcontact : contactHolds p = false) :
    cycled p = failClosing p := by
  unfold cycled; rw [if_pos hclosing, hcontact]; rfl

/-- A dwell sample, by what it reads of the part at the tick (R136, R139). -/
theorem cycled_sampling (h : p.sequencer.platen = .dwell ∨ p.sequencer.platen = .closing ∧ contactHolds p = true) :
    (cycled p).dose =
      { p.dose with
        lanes :=
          mapIndexed
            (fun i l =>
              sampleLane (cfg p).lead p.sequencer.dry.isNone (p.dose.samples + 1) p.sampling.drift (laneChannel p i).isOpen
                (laneIncrement p i) l) p.dose.lanes,
        samples := p.dose.samples + 1, lost := if belowPmin p then min 255 (p.dose.lost + 1) else p.dose.lost,
        drift := p.dose.drift || p.sampling.drift,
        scaleAtStart := if p.sequencer.platen = .closing then p.regulator.scale else p.dose.scaleAtStart } := by
  unfold cycled
  rcases h with hdwell | ⟨hclosing, hcontact⟩
  · rw [hdwell]; rfl
  · rw [if_pos hclosing, hcontact, if_pos hclosing]; rfl

end

end Sys2Proof.Machine.SampleTicks
end

section
/-! One sample tick block by block (O44, R73 to R76, R81, R83, R86, R93, R95, R100, R109, R117 to R119, R138 to R142, R168, R178). -/

namespace Sys2Proof.Machine.SampleTicks

open Outcomes Concluding DryCycles CycleEvents UnitEvents MonitorCounts IndexEdges

/-! ## Counter 6 (R178) -/

section

variable {m : Monitor}

/-- Additions to the six programmable counters leave counter 6. -/
theorem addAll_fixed (f : Control → Nat) (hcontrols : m.controls.length = 6) : (addAll f m).counters[6]? = m.counters[6]? := by
  unfold addAll
  split
  · rfl
  · show (addEach f m.controls m.counters)[6]? = _
    rw [addEach_getElem?, List.getElem?_eq_none (Nat.le_of_eq hcontrols)]

theorem takeConditions_fixed (f : Control → Option Bool) (hcontrols : m.controls.length = 6) :
    (takeConditions f m).counters[6]? = m.counters[6]? ∧ (takeConditions f m).controls.length = 6 := by
  refine ⟨addAll_fixed _ hcontrols, ?_⟩
  rw [(takeConditions_leaves f m).1, List.length_map]; exact hcontrols

theorem countTick_fixed (hfrozen : m.frozen = none) : (countTick m).counters[6]? = m.counters[6]?.map (fun c => addTo c 1) := by
  unfold countTick
  rw [hfrozen]
  exact (updateAt_getElem? _ _ _ _).trans (if_pos rfl)

end

/-! ## The blocks of the tick -/

section

variable (conv : Conversions) (r : Part)

/-- The conversions taken and the heaters of unfit lanes cut. -/
def converted : Part := cutHeaters (takeConversions conv r)

/-- The tick up to the period count. -/
def levelled : Part := countPeriodTick (advanceIdle (levelAlarms (cycleTick (converted conv r))))

/-- The tick up to the monitor, before what reads the regulator. -/
def monitored : Part :=
  monitorTick (isDwellSample (converted conv r) && belowPmin (converted conv r)) (levelled conv r)

theorem tick_eq :
    tick conv r =
      markHeaters (if periodDue (monitored conv r) then monitored conv r else readRegulator (monitored conv r)) := rfl

theorem converted_leaves :
    (converted conv r).sampling = sampleUnit (cfg r) conv r.sampling ∧ (converted conv r).sequencer = r.sequencer ∧
      (converted conv r).dose = r.dose ∧ (converted conv r).control = r.control ∧ (converted conv r).monitor = r.monitor ∧
      (converted conv r).loader = r.loader ∧ (converted conv r).pins = r.pins ∧ (converted conv r).tracker = r.tracker ∧
      (converted conv r).regulator = { r.regulator with heaters := (converted conv r).regulator.heaters } :=
  ⟨rfl, rfl, rfl, rfl, rfl, rfl, rfl, rfl, rfl⟩

theorem tick_sampling : (tick conv r).sampling = sampleUnit (cfg r) conv r.sampling := by
  rw [tick_eq, markHeaters_sampling]
  split <;> simp [monitored, levelled, (converted_leaves conv r).1]

theorem tick_cycle :
    (tick conv r).sequencer = (cycleTick (converted conv r)).sequencer ∧
      (tick conv r).dose = (cycleTick (converted conv r)).dose := by
  rw [tick_eq, markHeaters_sequencer, markHeaters_dose]
  split <;> simp [monitored, levelled]

theorem laneChannel_tick (i : Nat) : laneChannel (tick conv r) i = laneChannel (converted conv r) i := by
  obtain ⟨-, -, -, -, -, hloader, -⟩ := converted_leaves conv r
  have hcfg : cfg (tick conv r) = cfg (converted conv r) := cfg_congr (by rw [tick_loader, hloader])
  unfold laneChannel
  rw [hcfg, tick_sampling, (converted_leaves conv r).1]

/-! ## The regulator (R93, R95, R100, R110) -/

theorem levelled_regulator :
    (levelled conv r).regulator =
      { r.regulator with
        ticks := min 32 (r.regulator.ticks + 1), heaters := (converted conv r).regulator.heaters,
        idleClock :=
          if (r.control.mode = .run ∨ r.control.mode = .hold) ∧ r.regulator.idle = false then r.regulator.idleClock + 2
          else r.regulator.idleClock } := by
  have hcondition : (idleMode r.control.mode && !r.regulator.idle) = true ↔
      (r.control.mode = .run ∨ r.control.mode = .hold) ∧ r.regulator.idle = false := by
    rw [Bool.and_eq_true, idleMode_iff, Bool.not_eq_true']
  obtain ⟨-, -, -, hcontrol, -⟩ := converted_leaves conv r
  unfold levelled countPeriodTick advanceIdle
  rw [levelAlarms_mode, levelAlarms_regulator, cycleTick_control, cycleTick_regulator, hcontrol]
  by_cases hruns : (idleMode r.control.mode && !r.regulator.idle) = true
  · rw [if_pos (show (idleMode r.control.mode && !(converted conv r).regulator.idle) = true from hruns), if_pos (hcondition.mp hruns)]
    rfl
  · rw [if_neg (show ¬(idleMode r.control.mode && !(converted conv r).regulator.idle) = true from hruns),
      if_neg (hcondition.not.mp hruns), levelAlarms_regulator, cycleTick_regulator]
    rfl

theorem tick_regulator : (tick conv r).regulator = markSeen (levelled conv r).regulator := by
  rw [tick_eq]
  show markSeen _ = _
  split
  · rfl
  · rw [readRegulator_regulator]; rfl

theorem tick_heaters :
    (tick conv r).regulator.heaters =
      (mapIndexed (fun i x => { x with on := x.on && !laneUnfit (converted conv r) i }) r.regulator.heaters).map
        (fun x => { x with seen := x.on }) := by
  rw [tick_regulator, levelled_regulator]; rfl

theorem tick_heater {i : Nat} {x y : Heater} (hx : r.regulator.heaters[i]? = some x)
    (hy : (tick conv r).regulator.heaters[i]? = some y) :
    y.duty = x.duty ∧ y.applied = x.applied ∧ y.seen = y.on ∧
      (y.on = true ↔
        x.on = true ∧ (laneChannel (tick conv r) i).isOpen = false ∧ (laneChannel (tick conv r) i).overheat = false) := by
  rw [tick_heaters, List.getElem?_map, mapIndexed_getElem?, hx, Option.map_some, Option.map_some, Option.some.injEq] at hy
  subst hy
  refine ⟨rfl, rfl, rfl, ?_⟩
  rw [laneChannel_tick]
  simp [laneUnfit]

/-! ## The flags (R109, R168) -/

theorem tick_ticks : (tick conv r).regulator.ticks = min 32 (r.regulator.ticks + 1) := by
  rw [tick_regulator, levelled_regulator]; rfl

theorem levelled_control :
    (levelled conv r).control =
      (raiseIf (decide (16 ≤ r.tracker.quietCount)) .lineQuiet
        (raiseIf ((List.range (cfg r).lanes).any (fun i => (laneChannel (tick conv r) i).overheat)) .overheat
          (raiseIf ((List.range (cfg r).lanes).any (fun i => (laneChannel (tick conv r) i).isOpen)) .sensorOpen r))).control := by
  have hchannel (i : Nat) : laneChannel (cycleTick (converted conv r)) i = laneChannel (tick conv r) i := by
    rw [laneChannel_tick]
    unfold laneChannel
    rw [cycleTick_sampling, cfg_congr (cycleTick_loader _)]
  have hcfg : cfg (cycleTick (converted conv r)) = cfg r := cfg_congr (cycleTick_loader _)
  have hin (t : Channel → Bool) : anyInUse t (cycleTick (converted conv r)) =
      (List.range (cfg r).lanes).any (fun i => t (laneChannel (tick conv r) i)) := by
    unfold anyInUse lanesInUse; rw [hcfg]; simp only [hchannel]
  unfold levelled levelAlarms
  rw [countPeriodTick_control, advanceIdle_control, cycleTick_tracker, hin, hin]
  exact raiseIf_control_congr _ _ (raiseIf_control_congr _ _ (raiseIf_control_congr _ _ (cycleTick_control _)))

theorem tick_control :
    (tick conv r).control =
      (raiseIf (decide ((tick conv r).regulator.ticks < 32 ∧ r.regulator.scale < 256)) .supplyShort
        (levelled conv r)).control := by
  have hticks : (monitored conv r).regulator.ticks = (tick conv r).regulator.ticks := by
    rw [tick_ticks]; unfold monitored; rw [monitorTick_regulator, levelled_regulator]
  have hscale : (monitored conv r).regulator.scale = r.regulator.scale := by
    unfold monitored; rw [monitorTick_regulator, levelled_regulator]
  have hmonitored : (monitored conv r).control = (levelled conv r).control := monitorTick_control _ _
  rw [show (tick conv r).control = (if periodDue (monitored conv r) then monitored conv r else readRegulator (monitored conv r)).control
    from markHeaters_control _]
  unfold periodDue
  rw [hticks]
  by_cases hdue : 32 ≤ (tick conv r).regulator.ticks
  · rw [if_pos (decide_eq_true hdue), decide_eq_false fun h => absurd h.1 (Nat.not_lt.mpr hdue)]
    exact hmonitored
  · rw [if_neg (by simpa using hdue), readRegulator_eta, hscale]
    have hsame : decide ((tick conv r).regulator.ticks < 32 ∧ r.regulator.scale < 256) = decide (r.regulator.scale < 256) :=
      decide_eq_decide.mpr ⟨And.right, fun h => ⟨Nat.not_le.mp hdue, h⟩⟩
    rw [hsame]
    exact raiseIf_control_congr _ _ hmonitored

/-! ## The monitor (R178) -/

theorem cycleTick_monitor (p : Part) :
    (cycleTick p).monitor = p.monitor ∨ ∃ n, (cycleTick p).monitor = occur .dwellLength n p.monitor := by
  by_cases hcycle : p.sequencer.platen = .closing ∨ p.sequencer.platen = .dwell
  · have hcycled : (cycled p).monitor = p.monitor := by
      unfold cycled; split
      · split <;> simp
      · simp
    rw [cycleTick_cycled hcycle, ← hcycled]
    unfold openIfEnded
    split
    · exact .inr ⟨_, openCommand_monitor _⟩
    · exact .inl rfl
  · rw [not_or] at hcycle
    exact .inl (by rw [cycleTick_idle hcycle.1 hcycle.2])

theorem tick_fixed (hfrozen : r.monitor.frozen = none) (hcontrols : r.monitor.controls.length = 6) :
    (tick conv r).monitor.counters[6]? = r.monitor.counters[6]?.map (fun c => addTo c 1) := by
  obtain ⟨hsix, hlength, hclear⟩ : (levelled conv r).monitor.counters[6]? = r.monitor.counters[6]? ∧
      (levelled conv r).monitor.controls.length = 6 ∧ (levelled conv r).monitor.frozen = none := by
    unfold levelled
    rw [countPeriodTick_monitor, advanceIdle_monitor, levelAlarms_monitor]
    rcases cycleTick_monitor (converted conv r) with hkept | ⟨n, hcounted⟩
    · rw [hkept]; exact ⟨rfl, hcontrols, hfrozen⟩
    · rw [hcounted]
      obtain ⟨hc, hf, -, -⟩ := addAll_leaves
        (fun t => if t.enable && t.select == eventCode .dwellLength then added t n else 0) r.monitor
      exact ⟨addAll_fixed _ hcontrols, (congrArg List.length hc).trans hcontrols, hf.trans hfrozen⟩
  have hticked : (monitored conv r).monitor.counters[6]? = r.monitor.counters[6]?.map (fun c => addTo c 1) ∧
      (monitored conv r).monitor.controls.length = 6 := by
    have hbefore : (beforeConditions (levelled conv r)).controls.length = 6 := by
      rw [(beforeConditions_leaves _).1]; exact hlength
    have hcounted : (beforeConditions (levelled conv r)).counters[6]? = r.monitor.counters[6]?.map (fun c => addTo c 1) := by
      refine (addAll_fixed _ ((congrArg List.length (countTick_leaves _).1).trans hlength)).trans ?_
      rw [countTick_fixed hclear, hsix]
    unfold monitored
    rw [monitorTick_monitor]
    obtain ⟨hkept, hstill⟩ := takeConditions_fixed _ hbefore
    exact ⟨hkept.trans hcounted, hstill⟩
  rw [show (tick conv r).monitor = (if periodDue (monitored conv r) then monitored conv r else readRegulator (monitored conv r)).monitor
    from markHeaters_monitor _]
  split
  · exact hticked.1
  · rw [readRegulator_monitor, (takeConditions_fixed _ hticked.2).1]; exact hticked.1

end

/-! ## The lanes (R118, R139 to R142) -/

theorem failClosing_lane {p : Part} {i : Nat} {l m : LaneDose} (hl : p.dose.lanes[i]? = some l)
    (hm : (failClosing p).dose.lanes[i]? = some m) :
    (l.contact = .ended ∨ (laneChannel p i).isOpen = false → m = l) ∧
      (l.contact ≠ .ended → (laneChannel p i).isOpen = true → m = { l with contact := .ended, sensorEnd := true }) := by
  have hm : m = if (laneChannel p i).isOpen then failLane l else l := by
    have hat := (mapIndexed_getElem? _ _ _).symm.trans hm
    rw [hl] at hat
    exact (Option.some.inj hat).symm
  refine ⟨fun h => ?_, fun hcontact hopen => ?_⟩
  · rcases h with hended | hsound
    · rw [hm, failLane_ended hended, ite_self]
    · rw [hm, hsound]; rfl
  · rw [hm, hopen]; exact failLane_of hcontact

theorem sampleLane_gives {lead sample inc : Nat} {row drift isOpen : Bool} {l m w : LaneDose}
    (hm : m = sampleLane lead row sample drift isOpen inc l) (hw : w = addSample drift inc l) :
    (l.contact = .ended → m = l) ∧
      (l.contact ≠ .ended → isOpen = true → m = { l with contact := .ended, sensorEnd := true }) ∧
      (∀ lag : Nat, l.contact = .lag lag → isOpen = false → m = { w with contact := .lag (lag - 1) }) ∧
      (l.contact = .inContact → isOpen = false →
        (row = true → l.aim ≤ w.acc + lead * inc →
          m = { w with lift := some sample, contact := if lead = 0 then .ended else .lag lead }) ∧
        (row = false ∨ w.acc + lead * inc < l.aim → m = w)) := by
  subst hm hw
  refine ⟨sampleLane_ended, fun hcontact hopen => ?_, fun lag hlag hsound => ?_,
    fun hcontact hsound => ⟨fun hrow haim => ?_, fun hstay => ?_⟩⟩
  · rw [hopen]; exact sampleLane_open hcontact
  · rw [hsound]; exact sampleLane_lag hlag
  · rw [hsound]; exact sampleLane_lifts hcontact hrow haim
  · rw [hsound]; exact sampleLane_stays hcontact hstay

/-- Settles O44: conversions, heaters, cycle, flags, regulator and monitor, block by block. -/
theorem sampleTickSamplesAndIntegrates : Obligations.SampleTickSamplesAndIntegrates := by
  refine fun s conv r hr => ⟨fun hnone => ?_, fun k t contact hconfig ht hcontact => ?_⟩
  · exact takes_of_kept rfl hr (by unfold takeTick; rw [hnone]; rfl)
  have hk : cfg r = k := by unfold cfg; rw [hconfig]; rfl
  have htaken : takeTick conv r = t := by unfold takeTick; rw [hconfig]; exact ht.symm
  obtain ⟨psampling, psequencer, pdose, -, -, ploader, ppins, -, pregulator⟩ := converted_leaves conv r
  have hpk : cfg (converted conv r) = k := (cfg_congr ploader).trans hk
  have htsampling : t.sampling = sampleUnit k conv r.sampling := by rw [ht, tick_sampling, hk]
  have hsampled : (converted conv r).sampling = t.sampling := by rw [psampling, htsampling, hk]
  have hchannel (i : Nat) : laneChannel (converted conv r) i = laneChannel t i := by rw [ht, laneChannel_tick]
  have hholds : contact = contactHolds (converted conv r) := by rw [contactHolds_eq, hcontact, hpk, hsampled, ppins]
  obtain ⟨htsequencer, htdose⟩ := tick_cycle conv r
  rw [← ht] at htsequencer htdose
  refine ⟨takes_of_run_finish rfl hr htaken, by rw [ht, tick_tracker], by rw [ht, tick_port], by rw [ht, tick_log],
    by rw [ht, tick_loader], by rw [ht, tick_responder], by rw [ht, tick_pins], ?control, fun hticks hscale => ?short,
    ?regulator, ?heaters, fun i x y hx hy => ?heater, fun hfrozen hcontrols => ?fixed, fun c hcheck => ?check,
    fun hcheck => ?channels, fun hclosing hdwell => ?idle, fun q hq hcycle => ?cycle, fun hclosing hnone => ?failing,
    fun hdwell => ?dwell⟩
  case control => rw [ht, tick_control, ← hk]; exact raiseIf_control_congr _ _ (levelled_control conv r)
  case short =>
    refine alarmSet_congr (congrArg ModeController.alarms (ht ▸ tick_control conv r)) ?_
    rw [decide_eq_true ⟨ht ▸ hticks, hscale⟩]
    exact alarmSet_raised .supplyShort _
  case regulator => rw [ht, tick_regulator, levelled_regulator]; rfl
  case heaters => rw [ht, tick_heaters, List.length_map, mapIndexed_length]
  case heater => rw [ht] at hy ⊢; exact tick_heater conv r hx hy
  case fixed => rw [ht]; exact tick_fixed conv r hfrozen hcontrols
  case check => rw [htsampling]; exact sampleUnit_check hcheck
  case channels =>
    rw [sampleUnit_channels hcheck] at htsampling
    rw [htsampling]
    refine ⟨rfl, mapIndexed_length _ _, rfl, fun i x y n m hx hy hm hn hi => ?_⟩
    have hy : y = sampleChannel k i m x := by
      have hat := (mapIndexed_getElem? _ _ _).symm.trans hy
      rw [hx, Option.map_some, if_pos hi] at hat
      rw [hm]
      exact (Option.some.inj hat).symm
    refine ⟨fun h => hy.trans (sampleChannel_flagged h), fun h hopen hshort => hy.trans (sampleChannel_recovering h hopen hshort),
      fun h hread => ?_⟩
    rw [hy, sampleChannel_taken h hread, hn]
    exact ⟨rfl, rfl, rfl, overheatAfter_iff⟩
  case idle => rw [htsequencer, htdose, cycleTick_idle (psequencer ▸ hclosing) (psequencer ▸ hdwell)]; exact ⟨psequencer, pdose⟩
  case cycle =>
    have hcycled : (cycled (converted conv r)).sequencer = q := by rw [cycled_sequencer hholds, psequencer, hq]
    have hdry : q.dry = r.sequencer.dry := by rw [hq]; split <;> rfl
    rw [cycleTick_cycled (psequencer ▸ hcycle)] at htsequencer htdose
    rw [openIfEnded_dose] at htdose
    rw [htdose, htsequencer, ← hdry, ← hcycled]
    refine ⟨fun hended => ?_, fun hopen => ?_⟩
    · rw [openIfEnded_opens hended.1 hended.2, openCommand_sequencer, cfg_congr (cycled_loader _), hpk]
    · rw [openIfEnded_stays hopen]
  case failing =>
    rw [cycleTick_cycled (psequencer ▸ .inl hclosing), openIfEnded_dose,
      cycled_failing (psequencer ▸ hclosing) (hholds ▸ hnone)] at htdose
    rw [htdose]
    refine ⟨rfl, mapIndexed_length _ _, fun i l m hl hm => ?_⟩
    rw [← hchannel]
    exact failClosing_lane hl hm
  case dwell =>
    have hcycle : r.sequencer.platen = .closing ∨ r.sequencer.platen = .dwell := hdwell.symm.imp_left And.left
    rw [cycleTick_cycled (psequencer ▸ hcycle), openIfEnded_dose,
      cycled_sampling (by rw [psequencer, ← hholds]; exact hdwell)] at htdose
    rw [htdose]
    have hdrift : (converted conv r).sampling.drift = r.sampling.drift := by rw [psampling]; exact sampleUnit_drift
    refine ⟨?_, mapIndexed_length _ _, fun i inc l m w hl hm hinc hw => ?_⟩
    · rw [psequencer, pdose, hdrift]
      unfold belowPmin
      rw [hpk, hsampled, pregulator]
      simp only [decide_eq_true_eq]
    · have hm : m = sampleLane k.lead r.sequencer.dry.isNone (r.dose.samples + 1) r.sampling.drift (laneChannel t i).isOpen inc l := by
        have hat := (mapIndexed_getElem? _ _ _).symm.trans hm
        rw [pdose, hl, hdrift, hpk, psequencer, hchannel] at hat
        unfold laneIncrement at hat
        rw [hpk, hsampled, hchannel, ← hinc] at hat
        exact (Option.some.inj hat).symm
      obtain ⟨hended, hopen, hlag, hin⟩ := sampleLane_gives hm hw
      refine ⟨hended, hopen, hlag, fun hcontact hsound => ?_⟩
      obtain ⟨hlift, hstay⟩ := hin hcontact hsound
      exact ⟨fun hdry => hlift (Option.isNone_iff_eq_none.mpr hdry),
        fun h => hstay (h.imp_left fun hdry => Bool.eq_false_iff.mpr fun hnone => hdry (Option.isNone_iff_eq_none.mp hnone))⟩

end Sys2Proof.Machine.SampleTicks
end
